-- ==== Sys2Proof/Word.lean ====
section
/-! DEFINITION. The widths of the block's values and the ASCII codes its rules name (R9, R10 of `00_scope.md`). -/

namespace Sys2Proof

/-- One byte: a character, a line byte or a buffer byte (R70 of `20_memory.md`). -/
abbrev Byte := BitVec 8

/-- One register access: 32 bits (R72 of `20_memory.md`). -/
abbrev Word := BitVec 32

/-- An instant in timer ticks, `TIME_W` = 64 bits (R8, R12 of `00_scope.md`). -/
abbrev Instant := BitVec 64

namespace Ascii

/-- `LF` (R9). -/
abbrev lf : Byte := 0x0A
/-- `CR` (R9). -/
abbrev cr : Byte := 0x0D
/-- The command terminator `!` (R105 of `30_encoding.md`). -/
abbrev bang : Byte := 0x21
/-- The digit `0`. -/
abbrev zero : Byte := 0x30
/-- The wildcard address `?` (R106). -/
abbrev query : Byte := 0x3F
/-- The letter `A`. -/
abbrev A : Byte := 0x41
/-- The letter `B`. -/
abbrev B : Byte := 0x42
/-- The letter `C`. -/
abbrev C : Byte := 0x43
/-- The letter `D`. -/
abbrev D : Byte := 0x44
/-- The letter `H`. -/
abbrev H : Byte := 0x48
/-- The letter `I`. -/
abbrev I : Byte := 0x49
/-- The letter `M`. -/
abbrev M : Byte := 0x4D
/-- The letter `R`. -/
abbrev R : Byte := 0x52
/-- The letter `V`. -/
abbrev V : Byte := 0x56
/-- The underscore before a parameter number (R108). -/
abbrev underscore : Byte := 0x5F

end Ascii

end Sys2Proof
end

