-- ==== Sys2Proof/Config.lean ====
section
/-! DEFINITION. What an instance of the block fixes (the parameters of R8), the records that cross its ports (R54 to R60), and the
free values: what the spec leaves open and no rule of the model may choose. -/

namespace Sys2Proof

/-- A frame format: `ASCII-7E1` or `Binary-8N1` (R14 of `00_scope.md`; code 0 and 1 in `r.fmt` and `r.framing`, R22). -/
inductive Framing where
  | ascii7E1
  | binary8N1
deriving DecidableEq, Repr, Inhabited

/-- The three byte buffers, each its own address space (R34 of `10_state.md`, R70 of `20_memory.md`). -/
inductive Space where
  | tx
  | rx
  | xb
deriving DecidableEq, Repr, Inhabited

/-- A receive event `in.rx` (R57 of `10_state.md`). -/
inductive RxEvent where
  /-- no event in this step -/
  | nothing
  /-- a received line byte -/
  | byte (lb : Byte)
  /-- a receive failure with the transport's own 7-bit code -/
  | err (e : BitVec 7)
deriving DecidableEq, Repr, Inhabited

/-- A host access `in.host` (R58 of `10_state.md`); a buffer index is 16 bits wide (R70 of `20_memory.md`). -/
inductive HostAccess where
  /-- no access in this step -/
  | idle
  /-- read register `n` -/
  | rdCsr (n : Nat)
  /-- write `v` to register `n` -/
  | wrCsr (n : Nat) (v : Word)
  /-- read byte `i` of a buffer -/
  | rdBuf (sp : Space) (i : BitVec 16)
  /-- write `v` to byte `i` of a buffer -/
  | wrBuf (sp : Space) (i : BitVec 16) (v : Byte)
deriving DecidableEq, Repr, Inhabited

/-- The input record of one step (R54 to R58 of `10_state.md`; `rst` is `rst_i` of R61). -/
structure Input where
  rst     : Bool
  now     : Instant
  txReady : Bool
  txDone  : Bool
  txErr   : Option (BitVec 7)
  rx      : RxEvent
  host    : HostAccess
deriving DecidableEq, Repr, Inhabited

/-- A step input at instant `now` that carries nothing else. -/
def Input.quiet (now : Instant) : Input where
  rst := false
  now := now
  txReady := false
  txDone := false
  txErr := none
  rx := .nothing
  host := .idle

/-- The output record of one step (R59 of `10_state.md`). -/
structure Output where
  breakO   : Bool
  framingO : Framing
  tx       : Option Byte
  irqO     : Bool
  rdata    : Word
deriving DecidableEq, Repr, Inhabited

/-- The output record of a reset step (R61 of `10_state.md`, R370 of `70_reset_and_hazards.md`). -/
def Output.atReset : Output where
  breakO := false
  framingO := .ascii7E1
  tx := none
  irqO := false
  rdata := 0

/-- The parameters of an instance (R8 of `00_scope.md`): durations in ticks, sizes in bytes. `tickHz` and `stepMax` speak of the
environment and are read by no rule of the block. -/
structure Params where
  tickHz           : Nat
  tBreakMin        : Nat
  tMark            : Nat
  tIdle            : Nat
  tRespExpedited   : Nat
  tRespStandard    : Nat
  tRespMeasurement : Nat
  tInterbyte       : Nat
  txbufSize        : Nat
  rxbufSize        : Nat
  xbufSize         : Nat
  stepMax          : Nat
deriving DecidableEq, Repr, Inhabited

/-- The constraints a model may assume of any instance (the sentence after the table of R8; outside them U2, a premise). -/
abbrev Params.Valid (p : Params) : Prop :=
  (1 ≤ p.txbufSize ∧ p.txbufSize ≤ 65535) ∧ (1 ≤ p.rxbufSize ∧ p.rxbufSize ≤ 65535) ∧ p.xbufSize ≤ 255 ∧ 1 ≤ p.tickHz ∧
  p.tBreakMin < 2 ^ 32 ∧ p.tMark < 2 ^ 32 ∧ p.tIdle < 2 ^ 32 ∧ p.tRespExpedited < 2 ^ 32 ∧ p.tRespStandard < 2 ^ 32 ∧
  p.tRespMeasurement < 2 ^ 32 ∧ p.tInterbyte < 2 ^ 32

/-- The suggested defaults of R8. DESIGN CHOICE (log 1): the spec leaves the values OPEN; only `State.reset` uses these. -/
def Params.suggested : Params where
  tickHz := 1000000
  tBreakMin := 12000
  tMark := 8330
  tIdle := 87000
  tRespExpedited := 50000
  tRespStandard := 900000
  tRespMeasurement := 900000
  tInterbyte := 0
  txbufSize := 32
  rxbufSize := 1024
  xbufSize := 16
  stepMax := 1

namespace Config

/-- `BAUD`, fixed (R8). Read by no rule of the block (R386). -/
def baud : Nat := 1200

/-- `RETRY_MAX_RESET`, decided (R8, D28). -/
def retryMaxReset : Nat := 3

/-- FREE VALUE (log 5): what a buffer byte reads as that nothing has stored since reset (R62, R80, U1: any value). -/
opaque unwrittenByte : Space → Nat → Byte

/-- FREE VALUE (log 3): what the environment does in a step for which `State.inputs` holds no record (R60, U14: any input). -/
opaque freeInput : Nat → Input

end Config

end Sys2Proof
end

