-- ==== Sys2Proof/Machine/Chars.lean ====
section
/-! DEFINITION. Characters: the address alphabet, the decimal spellings of bounded numbers, and the parity of a line byte. -/

namespace Sys2Proof.Machine

/-- `is_sensor_addr` (R106 of `30_encoding.md`): the 62 digits and letters. -/
def isSensorAddr (c : Byte) : Bool :=
  (decide (0x30#8 ≤ c) && decide (c ≤ 0x39#8)) || (decide (0x41#8 ≤ c) && decide (c ≤ 0x5A#8)) ||
    (decide (0x61#8 ≤ c) && decide (c ≤ 0x7A#8))

/-- `is_addr` (R106): a sensor address or the wildcard. -/
def isAddr (c : Byte) : Bool :=
  isSensorAddr c || c == Ascii.query

/-- A byte an extended body may hold: `0x20 .. 0x7E` and not `!` (R128 of `30_encoding.md`). -/
def isBodyByte (c : Byte) : Bool :=
  decide (0x20#8 ≤ c) && decide (c ≤ 0x7E#8) && !(c == Ascii.bang)

/-- `digit(n)` for `n <= 9` (R10 of `00_scope.md`). -/
def digit (n : Fin 10) : Byte :=
  Ascii.zero + BitVec.ofNat 8 n.val

/-- The decimal digit of weight `10 ^ k` of `n`. -/
def digitAt (n : Fin 1000) (k : Nat) : Byte :=
  digit ⟨n.val / 10 ^ k % 10, Nat.mod_lt _ (by decide)⟩

/-- `dec(n)` for `n <= 999` (R10): no leading zero. -/
def dec (n : Fin 1000) : List Byte :=
  if n.val < 10 then [digitAt n 0]
  else if n.val < 100 then [digitAt n 1, digitAt n 0]
  else [digitAt n 2, digitAt n 1, digitAt n 0]

/-- `ddd(n)` (R10): exactly three digits. -/
def ddd (n : Fin 1000) : List Byte :=
  [digitAt n 2, digitAt n 1, digitAt n 0]

/-- `parity7(c)` (R9 of `00_scope.md`): the exclusive or of bits 6 to 0. -/
def parity7 (c : Byte) : Bool :=
  c.getLsbD 0 ^^ c.getLsbD 1 ^^ c.getLsbD 2 ^^ c.getLsbD 3 ^^ c.getLsbD 4 ^^ c.getLsbD 5 ^^ c.getLsbD 6

/-- `line_byte(f, c)` (R102 of `30_encoding.md`): even parity in bit 7, or all eight bits. -/
def lineByte (f : Framing) (c : Byte) : Byte :=
  match f with
  | .ascii7E1 => (if parity7 c then 0x80#8 else 0#8) ||| (c &&& 0x7F#8)
  | .binary8N1 => c

/-- `char_of(f, lb)` (R103): `none` is `parity_error`. -/
def charOf (f : Framing) (lb : Byte) : Option Byte :=
  match f with
  | .ascii7E1 => if parity7 lb ^^ lb.getLsbD 7 then none else some (lb &&& 0x7F#8)
  | .binary8N1 => some lb

/-- Little-endian bytes of a number: byte 0 is bits 7:0. -/
def bytesLE : Nat → Nat → List Byte
  | 0, _ => []
  | k + 1, w => BitVec.ofNat 8 w :: bytesLE k (w / 256)

end Sys2Proof.Machine
end

