-- ==== Sys2Proof/Machine/Indices.lean ====
section
/-! DEFINITION. The index types (R172 of `41_address_command.md`): each index its own bounded type, the check of R175 that makes it
from the raw register field, and how it is spelled on the wire (R108, R121, R122 of `30_encoding.md`). -/

namespace Sys2Proof.Machine

/-- A measurement-set index, `0 .. 9`; 0 means none (R108, R172). -/
structure SetIndex where
  value : Fin 10
deriving DecidableEq, Repr

/-- A continuous-measurement index, `0 .. 9` (R108, R172). -/
structure ContIndex where
  value : Fin 10
deriving DecidableEq, Repr

/-- A data-set index, `0 .. 999` (R108, R172). -/
structure DataIndex where
  value : Fin 1000
deriving DecidableEq, Repr

/-- A metadata parameter number, `1 .. 999` (R108, R172). -/
structure ParamNumber where
  value    : Fin 1000
  positive : value ≠ 0
deriving DecidableEq, Repr

/-! ## The checks of R175: the only way from a raw field to an index; `none` is `IndexOutOfRange` -/

/-- Step 5 of R175 for the kinds with a measurement-set index. -/
def SetIndex.ofField (f : BitVec 10) : Option SetIndex :=
  if h : f.toNat < 10 then some ⟨⟨f.toNat, h⟩⟩ else none

/-- Step 5 of R175 for the kinds with a continuous index. -/
def ContIndex.ofField (f : BitVec 10) : Option ContIndex :=
  if h : f.toNat < 10 then some ⟨⟨f.toNat, h⟩⟩ else none

/-- Step 5 of R175 for the kinds with a data-set index. -/
def DataIndex.ofField (f : BitVec 10) : Option DataIndex :=
  if h : f.toNat < 1000 then some ⟨⟨f.toNat, h⟩⟩ else none

/-- Step 6 of R175: a parameter number. -/
def ParamNumber.ofField (f : BitVec 10) : Option ParamNumber :=
  if h : f.toNat < 1000 then
    if p : (⟨f.toNat, h⟩ : Fin 1000) ≠ 0 then some ⟨⟨f.toNat, h⟩, p⟩ else none
  else none

/-! ## The spellings -/

/-- A measurement-set index on the wire: its digit, absent for 0 (R108, R121). -/
def SetIndex.text (n : SetIndex) : List Byte := if n.value = 0 then [] else [digit n.value]

/-- A continuous index on the wire: its digit (R108, R121). -/
def ContIndex.text (n : ContIndex) : List Byte := [digit n.value]

/-- A data-set index on the wire: no leading zero (R108, R121). -/
def DataIndex.text (n : DataIndex) : List Byte := dec n.value

/-- A parameter number on the wire: three digits (R108, R122). -/
def ParamNumber.text (p : ParamNumber) : List Byte := ddd p.value

end Sys2Proof.Machine
end

