-- ==== Sys2Proof/Syntax.lean ====
section
/-! DEFINITION. The instructions: one constructor per row of `spec/opcode_table.json`. -/

namespace Sys2Proof

/-- The block's operations (R125 and R126 of `30_encoding.md`): the 44 SDI-12 commands a `TRANSACT` carries, then the sixteen codes
of `CTRL.OP`. An operand is the raw descriptor field (R120): any bit pattern can be written there, and the operation that uses it
checks it (R175 of `41_address_command.md`); `crc` is `CMD0.CRC_EXPECT`, `body` is `XBUF[0 .. XLEN)`. -/
inductive Instr where
  /-- `ACK`: `a!` acknowledge active (R180) -/
  | ack (addr : Byte)
  /-- `QUERY`: `?!` address query (R181) -/
  | query
  /-- `IDENT`: `aI!` send identification (R182) -/
  | ident (addr : Byte)
  /-- `CHADDR`: `aAb!` change address (R183) -/
  | chaddr (addr newAddr : Byte)
  /-- `M`: `aM!` start measurement (R184) -/
  | m (addr : Byte)
  /-- `Mn`: `aMn!` additional measurement (R185) -/
  | mn (addr : Byte) (n : BitVec 10)
  /-- `MC`: `aMC!` start measurement, CRC requested (R186) -/
  | mc (addr : Byte)
  /-- `MCn`: `aMCn!` (R187) -/
  | mcn (addr : Byte) (n : BitVec 10)
  /-- `V`: `aV!` start verification (R188) -/
  | v (addr : Byte)
  /-- `C`: `aC!` start concurrent measurement (R189) -/
  | c (addr : Byte)
  /-- `Cn`: `aCn!` (R190) -/
  | cn (addr : Byte) (n : BitVec 10)
  /-- `CC`: `aCC!` concurrent, CRC requested (R191) -/
  | cc (addr : Byte)
  /-- `CCn`: `aCCn!` (R192) -/
  | ccn (addr : Byte) (n : BitVec 10)
  /-- `Rn`: `aRn!` continuous measurement (R193) -/
  | rn (addr : Byte) (n : BitVec 10)
  /-- `RCn`: `aRCn!` continuous, CRC requested (R194) -/
  | rcn (addr : Byte) (n : BitVec 10)
  /-- `Dn`: `aDnnn!` send data (R195) -/
  | dn (addr : Byte) (n : BitVec 10) (crc : Bool)
  /-- `HA`: `aHA!` start high-volume ASCII measurement (R196) -/
  | ha (addr : Byte)
  /-- `HB`: `aHB!` start high-volume binary measurement (R197) -/
  | hb (addr : Byte)
  /-- `DBn`: `aDBnnn!` send binary data (R198) -/
  | dbn (addr : Byte) (n : BitVec 10)
  /-- `IM`: `aIM!` identify measurement (R199) -/
  | im (addr : Byte)
  /-- `IMn`: `aIMn!` (R200) -/
  | imn (addr : Byte) (n : BitVec 10)
  /-- `IMC`: `aIMC!` (R201) -/
  | imc (addr : Byte)
  /-- `IMCn`: `aIMCn!` (R202) -/
  | imcn (addr : Byte) (n : BitVec 10)
  /-- `IV`: `aIV!` (R203) -/
  | iv (addr : Byte)
  /-- `IC`: `aIC!` (R204) -/
  | ic (addr : Byte)
  /-- `ICn`: `aICn!` (R205) -/
  | icn (addr : Byte) (n : BitVec 10)
  /-- `ICC`: `aICC!` (R206) -/
  | icc (addr : Byte)
  /-- `ICCn`: `aICCn!` (R207) -/
  | iccn (addr : Byte) (n : BitVec 10)
  /-- `IHA`: `aIHA!` (R208) -/
  | iha (addr : Byte)
  /-- `IHB`: `aIHB!` (R209) -/
  | ihb (addr : Byte)
  /-- `IM_p`: `aIM_ppp!` identify measurement parameter (R210) -/
  | imP (addr : Byte) (p : BitVec 10) (crc : Bool)
  /-- `IMn_p`: `aIMn_ppp!` (R211) -/
  | imnP (addr : Byte) (n p : BitVec 10) (crc : Bool)
  /-- `IMC_p`: `aIMC_ppp!` (R212) -/
  | imcP (addr : Byte) (p : BitVec 10) (crc : Bool)
  /-- `IMCn_p`: `aIMCn_ppp!` (R213) -/
  | imcnP (addr : Byte) (n p : BitVec 10) (crc : Bool)
  /-- `IV_p`: `aIV_ppp!` (R214) -/
  | ivP (addr : Byte) (p : BitVec 10) (crc : Bool)
  /-- `IC_p`: `aIC_ppp!` (R215) -/
  | icP (addr : Byte) (p : BitVec 10) (crc : Bool)
  /-- `ICn_p`: `aICn_ppp!` (R216) -/
  | icnP (addr : Byte) (n p : BitVec 10) (crc : Bool)
  /-- `ICC_p`: `aICC_ppp!` (R217) -/
  | iccP (addr : Byte) (p : BitVec 10) (crc : Bool)
  /-- `ICCn_p`: `aICCn_ppp!` (R218) -/
  | iccnP (addr : Byte) (n p : BitVec 10) (crc : Bool)
  /-- `IRn_p`: `aIRn_ppp!` (R219) -/
  | irnP (addr : Byte) (n p : BitVec 10) (crc : Bool)
  /-- `IRCn_p`: `aIRCn_ppp!` (R220) -/
  | ircnP (addr : Byte) (n p : BitVec 10) (crc : Bool)
  /-- `IHA_p`: `aIHA_ppp!` (R221) -/
  | ihaP (addr : Byte) (p : BitVec 10) (crc : Bool)
  /-- `IHB_p`: `aIHB_ppp!` (R222) -/
  | ihbP (addr : Byte) (p : BitVec 10) (crc : Bool)
  /-- `X`: `a` body `!` extended command (R224) -/
  | x (addr : Byte) (body : List Byte) (crc : Bool)
  /-- `NOP`: host operation 0x0 (R293) -/
  | nop
  /-- `TRANSACT`: host operation 0x1 (R294) -/
  | transact
  /-- `CMD_FORMAT`: host operation 0x2 (R225) -/
  | cmdFormat
  /-- `ADDR_CHECK`: host operation 0x3 (R171) -/
  | addrCheck
  /-- `CRC_COMPUTE`: host operation 0x4 (R158) -/
  | crcCompute
  /-- `CRC_ENC_ASCII`: host operation 0x5 (R159) -/
  | crcEncAscii
  /-- `CRC_DEC_ASCII`: host operation 0x6 (R160) -/
  | crcDecAscii
  /-- `CRC_VERIFY`: host operation 0x7 (R162) -/
  | crcVerify
  /-- `CLEAR`: host operation 0x8 (R295) -/
  | clear
  /-- `RESERVED_OP_9`: reserved operation code 0x9 (R293) -/
  | reservedOp9
  /-- `RESERVED_OP_A`: reserved operation code 0xA (R293) -/
  | reservedOpA
  /-- `RESERVED_OP_B`: reserved operation code 0xB (R293) -/
  | reservedOpB
  /-- `RESERVED_OP_C`: reserved operation code 0xC (R293) -/
  | reservedOpC
  /-- `RESERVED_OP_D`: reserved operation code 0xD (R293) -/
  | reservedOpD
  /-- `RESERVED_OP_E`: reserved operation code 0xE (R293) -/
  | reservedOpE
  /-- `RESERVED_OP_F`: reserved operation code 0xF (R293) -/
  | reservedOpF
deriving DecidableEq, Repr, Inhabited

end Sys2Proof
end

