-- ==== Sys2Proof/WellFormed.lean ====
section
/-! DEFINITION. Which instructions are well formed: every operand at a value its rule allows (R106, R108, R121, R122, R224). An
ill-formed operand can still stand in a descriptor register; the operation that meets it reports it (R175). -/

namespace Sys2Proof

/-- An index of a form with a digit that may be absent: `1 .. 9` (R108 of `30_encoding.md`; the value 0 is the form without). -/
def wfSet (n : BitVec 10) : Bool := decide (1 ≤ n.toNat) && decide (n.toNat ≤ 9)

/-- A continuous-measurement index: `0 .. 9` (R108). -/
def wfCont (n : BitVec 10) : Bool := decide (n.toNat ≤ 9)

/-- A data-set index: `0 .. 999` (R108). -/
def wfData (n : BitVec 10) : Bool := decide (n.toNat ≤ 999)

/-- A metadata parameter number: `1 .. 999` (R108). -/
def wfParam (p : BitVec 10) : Bool := decide (1 ≤ p.toNat) && decide (p.toNat ≤ 999)

/-- An extended body: bytes of R128, at most as many as the 8-bit field `XLEN` counts (R120). -/
def wfBody (body : List Byte) : Bool := decide (body.length ≤ 255) && body.all Machine.isBodyByte

/-- Every operand is one the instruction's rule allows. -/
def Instr.wf (i : Instr) : Bool :=
  match i with
  | .ack addr => Machine.isSensorAddr addr
  | .query => true
  | .ident addr => Machine.isSensorAddr addr
  | .chaddr addr newAddr => Machine.isSensorAddr addr && Machine.isSensorAddr newAddr
  | .m addr => Machine.isSensorAddr addr
  | .mn addr n => Machine.isSensorAddr addr && wfSet n
  | .mc addr => Machine.isSensorAddr addr
  | .mcn addr n => Machine.isSensorAddr addr && wfSet n
  | .v addr => Machine.isSensorAddr addr
  | .c addr => Machine.isSensorAddr addr
  | .cn addr n => Machine.isSensorAddr addr && wfSet n
  | .cc addr => Machine.isSensorAddr addr
  | .ccn addr n => Machine.isSensorAddr addr && wfSet n
  | .rn addr n => Machine.isSensorAddr addr && wfCont n
  | .rcn addr n => Machine.isSensorAddr addr && wfCont n
  | .dn addr n _ => Machine.isSensorAddr addr && wfData n
  | .ha addr => Machine.isSensorAddr addr
  | .hb addr => Machine.isSensorAddr addr
  | .dbn addr n => Machine.isSensorAddr addr && wfData n
  | .im addr => Machine.isSensorAddr addr
  | .imn addr n => Machine.isSensorAddr addr && wfSet n
  | .imc addr => Machine.isSensorAddr addr
  | .imcn addr n => Machine.isSensorAddr addr && wfSet n
  | .iv addr => Machine.isSensorAddr addr
  | .ic addr => Machine.isSensorAddr addr
  | .icn addr n => Machine.isSensorAddr addr && wfSet n
  | .icc addr => Machine.isSensorAddr addr
  | .iccn addr n => Machine.isSensorAddr addr && wfSet n
  | .iha addr => Machine.isSensorAddr addr
  | .ihb addr => Machine.isSensorAddr addr
  | .imP addr p _ => Machine.isSensorAddr addr && wfParam p
  | .imnP addr n p _ => Machine.isSensorAddr addr && wfSet n && wfParam p
  | .imcP addr p _ => Machine.isSensorAddr addr && wfParam p
  | .imcnP addr n p _ => Machine.isSensorAddr addr && wfSet n && wfParam p
  | .ivP addr p _ => Machine.isSensorAddr addr && wfParam p
  | .icP addr p _ => Machine.isSensorAddr addr && wfParam p
  | .icnP addr n p _ => Machine.isSensorAddr addr && wfSet n && wfParam p
  | .iccP addr p _ => Machine.isSensorAddr addr && wfParam p
  | .iccnP addr n p _ => Machine.isSensorAddr addr && wfSet n && wfParam p
  | .irnP addr n p _ => Machine.isSensorAddr addr && wfCont n && wfParam p
  | .ircnP addr n p _ => Machine.isSensorAddr addr && wfCont n && wfParam p
  | .ihaP addr p _ => Machine.isSensorAddr addr && wfParam p
  | .ihbP addr p _ => Machine.isSensorAddr addr && wfParam p
  | .x addr body _ => Machine.isSensorAddr addr && wfBody body
  | .nop => true
  | .transact => true
  | .cmdFormat => true
  | .addrCheck => true
  | .crcCompute => true
  | .crcEncAscii => true
  | .crcDecAscii => true
  | .crcVerify => true
  | .clear => true
  | .reservedOp9 => true
  | .reservedOpA => true
  | .reservedOpB => true
  | .reservedOpC => true
  | .reservedOpD => true
  | .reservedOpE => true
  | .reservedOpF => true

/-- The instruction is well formed. -/
abbrev Instr.WellFormed (i : Instr) : Prop := i.wf = true

end Sys2Proof
end

