-- ==== Sys2Proof/Decode.lean ====
section
/-! DEFINITION. Decoding and encoding. An instruction has three images, each with its decoder and its encoder: the word written to
`CTRL` (R125, R293), the descriptor registers with the extended body (R120 to R122, R126), and the wire string (R105, R123, R126,
R127). `decodeTableWord` reads the rows of `spec/opcode_table.json`. -/

namespace Sys2Proof

/-- Why an image spells no instruction. -/
inductive DecodeError where
  /-- `KIND` in `0x0F .. 0xFF` (R121) -/
  | reservedKind
  /-- `META = 3` (R122) -/
  | reservedMeta
  /-- `META` 1 or 2 with a kind that has no such form (R122) -/
  | metaNotForKind
  /-- bytes that are neither a command frame nor a `CTRL` word (R105, R127) -/
  | noFrame
deriving DecidableEq, Repr

/-! ## The word written to `CTRL` -/

/-- `CTRL.OP` = bits 3:0 selects the operation; bits 31:4 are ignored (R41 of `10_state.md`, R125 of `30_encoding.md`). -/
def decodeOp (v : Word) : Instr :=
  match v.toNat % 16 with
  | 0 => .nop
  | 1 => .transact
  | 2 => .cmdFormat
  | 3 => .addrCheck
  | 4 => .crcCompute
  | 5 => .crcEncAscii
  | 6 => .crcDecAscii
  | 7 => .crcVerify
  | 8 => .clear
  | 9 => .reservedOp9
  | 10 => .reservedOpA
  | 11 => .reservedOpB
  | 12 => .reservedOpC
  | 13 => .reservedOpD
  | 14 => .reservedOpE
  | _ => .reservedOpF

/-- The operation code of a host operation (R125); a command has none of its own. -/
def opCode (i : Instr) : Option (BitVec 4) :=
  match i with
  | .ack _ => none
  | .query => none
  | .ident _ => none
  | .chaddr _ _ => none
  | .m _ => none
  | .mn _ _ => none
  | .mc _ => none
  | .mcn _ _ => none
  | .v _ => none
  | .c _ => none
  | .cn _ _ => none
  | .cc _ => none
  | .ccn _ _ => none
  | .rn _ _ => none
  | .rcn _ _ => none
  | .dn _ _ _ => none
  | .ha _ => none
  | .hb _ => none
  | .dbn _ _ => none
  | .im _ => none
  | .imn _ _ => none
  | .imc _ => none
  | .imcn _ _ => none
  | .iv _ => none
  | .ic _ => none
  | .icn _ _ => none
  | .icc _ => none
  | .iccn _ _ => none
  | .iha _ => none
  | .ihb _ => none
  | .imP _ _ _ => none
  | .imnP _ _ _ _ => none
  | .imcP _ _ _ => none
  | .imcnP _ _ _ _ => none
  | .ivP _ _ _ => none
  | .icP _ _ _ => none
  | .icnP _ _ _ _ => none
  | .iccP _ _ _ => none
  | .iccnP _ _ _ _ => none
  | .irnP _ _ _ _ => none
  | .ircnP _ _ _ _ => none
  | .ihaP _ _ _ => none
  | .ihbP _ _ _ => none
  | .x _ _ _ => none
  | .nop => some 0
  | .transact => some 1
  | .cmdFormat => some 2
  | .addrCheck => some 3
  | .crcCompute => some 4
  | .crcEncAscii => some 5
  | .crcDecAscii => some 6
  | .crcVerify => some 7
  | .clear => some 8
  | .reservedOp9 => some 9
  | .reservedOpA => some 10
  | .reservedOpB => some 11
  | .reservedOpC => some 12
  | .reservedOpD => some 13
  | .reservedOpE => some 14
  | .reservedOpF => some 15

/-! ## The descriptor registers -/

/-- The command families of R121 (`30_encoding.md`). -/
inductive Kind where
  | ack
  | ident
  | chaddr
  | m
  | mc
  | v
  | c
  | cc
  | r
  | rc
  | d
  | ha
  | hb
  | db
  | x
deriving DecidableEq, Repr

/-- The code of a kind (R121). -/
def Kind.code (k : Kind) : Byte :=
  match k with
  | .ack => 0x00
  | .ident => 0x01
  | .chaddr => 0x02
  | .m => 0x03
  | .mc => 0x04
  | .v => 0x05
  | .c => 0x06
  | .cc => 0x07
  | .r => 0x08
  | .rc => 0x09
  | .d => 0x0A
  | .ha => 0x0B
  | .hb => 0x0C
  | .db => 0x0D
  | .x => 0x0E

/-- The kind of a code; `0x0F .. 0xFF` are reserved (R121). -/
def Kind.ofCode (b : Byte) : Option Kind :=
  match b.toNat with
  | 0 => some .ack
  | 1 => some .ident
  | 2 => some .chaddr
  | 3 => some .m
  | 4 => some .mc
  | 5 => some .v
  | 6 => some .c
  | 7 => some .cc
  | 8 => some .r
  | 9 => some .rc
  | 10 => some .d
  | 11 => some .ha
  | 12 => some .hb
  | 13 => some .db
  | 14 => some .x
  | _ => none

/-- A command descriptor: the fields of `CMD0` and `CMD1` (R45, R46 of `10_state.md`, R120 of `30_encoding.md`). -/
structure Descriptor where
  addr      : Byte
  kind      : Byte
  idx       : BitVec 10
  metaForm  : BitVec 2
  crcExpect : Bool
  param     : BitVec 10
  newAddr   : Byte
  xlen      : Byte
deriving DecidableEq, Repr

/-- The fields of `CMD0` (R45) and `CMD1` (R46). -/
def Descriptor.ofRegs (cmd0 cmd1 : Word) : Descriptor where
  addr := cmd0.extractLsb' 0 8
  kind := cmd0.extractLsb' 8 8
  idx := cmd0.extractLsb' 16 10
  metaForm := cmd0.extractLsb' 26 2
  crcExpect := cmd0.getLsbD 28
  param := cmd1.extractLsb' 0 10
  newAddr := cmd1.extractLsb' 16 8
  xlen := cmd1.extractLsb' 24 8

/-- `CMD0` of a descriptor, reserved bits 0 (R45). -/
def Descriptor.cmd0 (d : Descriptor) : Word :=
  0#3 ++ BitVec.ofBool d.crcExpect ++ d.metaForm ++ d.idx ++ d.kind ++ d.addr

/-- `CMD1` of a descriptor, reserved bits 0 (R46). -/
def Descriptor.cmd1 (d : Descriptor) : Word :=
  d.xlen ++ d.newAddr ++ 0#6 ++ d.param

/-- The commands of `META = 0` (rows 1 to 19 and 44 of R126); `body` is `XBUF[0 .. XLEN)`. -/
def decodePlain (k : Kind) (d : Descriptor) (body : List Byte) : Instr :=
  match k with
  | .ack => if d.addr = Ascii.query then .query else .ack d.addr
  | .ident => .ident d.addr
  | .chaddr => .chaddr d.addr d.newAddr
  | .m => if d.idx = 0 then .m d.addr else .mn d.addr d.idx
  | .mc => if d.idx = 0 then .mc d.addr else .mcn d.addr d.idx
  | .v => .v d.addr
  | .c => if d.idx = 0 then .c d.addr else .cn d.addr d.idx
  | .cc => if d.idx = 0 then .cc d.addr else .ccn d.addr d.idx
  | .r => .rn d.addr d.idx
  | .rc => .rcn d.addr d.idx
  | .d => .dn d.addr d.idx d.crcExpect
  | .ha => .ha d.addr
  | .hb => .hb d.addr
  | .db => .dbn d.addr d.idx
  | .x => .x d.addr body d.crcExpect

/-- The commands of `META = 1` (rows 20 to 30 of R126). -/
def decodeIdentify (k : Kind) (d : Descriptor) : Except DecodeError Instr :=
  match k with
  | .m => if d.idx = 0 then .ok (.im d.addr) else .ok (.imn d.addr d.idx)
  | .mc => if d.idx = 0 then .ok (.imc d.addr) else .ok (.imcn d.addr d.idx)
  | .v => .ok (.iv d.addr)
  | .c => if d.idx = 0 then .ok (.ic d.addr) else .ok (.icn d.addr d.idx)
  | .cc => if d.idx = 0 then .ok (.icc d.addr) else .ok (.iccn d.addr d.idx)
  | .ha => .ok (.iha d.addr)
  | .hb => .ok (.ihb d.addr)
  | .ack | .ident | .chaddr | .r | .rc | .d | .db | .x => .error .metaNotForKind

/-- The commands of `META = 2` (rows 31 to 43 of R126). -/
def decodeIdentifyParam (k : Kind) (d : Descriptor) : Except DecodeError Instr :=
  match k with
  | .m => if d.idx = 0 then .ok (.imP d.addr d.param d.crcExpect) else .ok (.imnP d.addr d.idx d.param d.crcExpect)
  | .mc => if d.idx = 0 then .ok (.imcP d.addr d.param d.crcExpect) else .ok (.imcnP d.addr d.idx d.param d.crcExpect)
  | .v => .ok (.ivP d.addr d.param d.crcExpect)
  | .c => if d.idx = 0 then .ok (.icP d.addr d.param d.crcExpect) else .ok (.icnP d.addr d.idx d.param d.crcExpect)
  | .cc => if d.idx = 0 then .ok (.iccP d.addr d.param d.crcExpect) else .ok (.iccnP d.addr d.idx d.param d.crcExpect)
  | .r => .ok (.irnP d.addr d.idx d.param d.crcExpect)
  | .rc => .ok (.ircnP d.addr d.idx d.param d.crcExpect)
  | .ha => .ok (.ihaP d.addr d.param d.crcExpect)
  | .hb => .ok (.ihbP d.addr d.param d.crcExpect)
  | .ack | .ident | .chaddr | .d | .db | .x => .error .metaNotForKind

/-- The command a descriptor spells (R121, R122, R126); the operands stay raw fields, checked at use (R175). -/
def decodeCommand (d : Descriptor) (body : List Byte) : Except DecodeError Instr :=
  match Kind.ofCode d.kind with
  | none => .error .reservedKind
  | some k =>
    match d.metaForm.toNat with
    | 0 => .ok (decodePlain k d body)
    | 1 => decodeIdentify k d
    | 2 => decodeIdentifyParam k d
    | _ => .error .reservedMeta

/-- A descriptor with the fields every command has, the others 0. -/
def Descriptor.plain (addr : Byte) (k : Kind) (metaForm : BitVec 2) : Descriptor where
  addr := addr
  kind := k.code
  idx := 0
  metaForm := metaForm
  crcExpect := false
  param := 0
  newAddr := 0
  xlen := 0

/-- The descriptor of a command (R126), unused fields 0; a host operation has none. -/
def encodeCommand (i : Instr) : Option Descriptor :=
  match i with
  | .ack addr => some (.plain addr .ack 0)
  | .query => some (.plain Ascii.query .ack 0)
  | .ident addr => some (.plain addr .ident 0)
  | .chaddr addr newAddr => some { Descriptor.plain addr .chaddr 0 with newAddr := newAddr }
  | .m addr => some (.plain addr .m 0)
  | .mn addr n => some { Descriptor.plain addr .m 0 with idx := n }
  | .mc addr => some (.plain addr .mc 0)
  | .mcn addr n => some { Descriptor.plain addr .mc 0 with idx := n }
  | .v addr => some (.plain addr .v 0)
  | .c addr => some (.plain addr .c 0)
  | .cn addr n => some { Descriptor.plain addr .c 0 with idx := n }
  | .cc addr => some (.plain addr .cc 0)
  | .ccn addr n => some { Descriptor.plain addr .cc 0 with idx := n }
  | .rn addr n => some { Descriptor.plain addr .r 0 with idx := n }
  | .rcn addr n => some { Descriptor.plain addr .rc 0 with idx := n }
  | .dn addr n crc => some { Descriptor.plain addr .d 0 with idx := n, crcExpect := crc }
  | .ha addr => some (.plain addr .ha 0)
  | .hb addr => some (.plain addr .hb 0)
  | .dbn addr n => some { Descriptor.plain addr .db 0 with idx := n }
  | .im addr => some (.plain addr .m 1)
  | .imn addr n => some { Descriptor.plain addr .m 1 with idx := n }
  | .imc addr => some (.plain addr .mc 1)
  | .imcn addr n => some { Descriptor.plain addr .mc 1 with idx := n }
  | .iv addr => some (.plain addr .v 1)
  | .ic addr => some (.plain addr .c 1)
  | .icn addr n => some { Descriptor.plain addr .c 1 with idx := n }
  | .icc addr => some (.plain addr .cc 1)
  | .iccn addr n => some { Descriptor.plain addr .cc 1 with idx := n }
  | .iha addr => some (.plain addr .ha 1)
  | .ihb addr => some (.plain addr .hb 1)
  | .imP addr p crc => some { Descriptor.plain addr .m 2 with param := p, crcExpect := crc }
  | .imnP addr n p crc => some { Descriptor.plain addr .m 2 with idx := n, param := p, crcExpect := crc }
  | .imcP addr p crc => some { Descriptor.plain addr .mc 2 with param := p, crcExpect := crc }
  | .imcnP addr n p crc => some { Descriptor.plain addr .mc 2 with idx := n, param := p, crcExpect := crc }
  | .ivP addr p crc => some { Descriptor.plain addr .v 2 with param := p, crcExpect := crc }
  | .icP addr p crc => some { Descriptor.plain addr .c 2 with param := p, crcExpect := crc }
  | .icnP addr n p crc => some { Descriptor.plain addr .c 2 with idx := n, param := p, crcExpect := crc }
  | .iccP addr p crc => some { Descriptor.plain addr .cc 2 with param := p, crcExpect := crc }
  | .iccnP addr n p crc => some { Descriptor.plain addr .cc 2 with idx := n, param := p, crcExpect := crc }
  | .irnP addr n p crc => some { Descriptor.plain addr .r 2 with idx := n, param := p, crcExpect := crc }
  | .ircnP addr n p crc => some { Descriptor.plain addr .rc 2 with idx := n, param := p, crcExpect := crc }
  | .ihaP addr p crc => some { Descriptor.plain addr .ha 2 with param := p, crcExpect := crc }
  | .ihbP addr p crc => some { Descriptor.plain addr .hb 2 with param := p, crcExpect := crc }
  | .x addr body crc => some { Descriptor.plain addr .x 0 with crcExpect := crc, xlen := BitVec.ofNat 8 body.length }
  | .nop => none
  | .transact => none
  | .cmdFormat => none
  | .addrCheck => none
  | .crcCompute => none
  | .crcEncAscii => none
  | .crcDecAscii => none
  | .crcVerify => none
  | .clear => none
  | .reservedOp9 => none
  | .reservedOpA => none
  | .reservedOpB => none
  | .reservedOpC => none
  | .reservedOpD => none
  | .reservedOpE => none
  | .reservedOpF => none

/-- The bytes a command needs in `XBUF` (R224): the body of `X`. -/
def extendedBody (i : Instr) : List Byte :=
  match i with
  | .x _ body _ => body
  | .ack _ => []
  | .query => []
  | .ident _ => []
  | .chaddr _ _ => []
  | .m _ => []
  | .mn _ _ => []
  | .mc _ => []
  | .mcn _ _ => []
  | .v _ => []
  | .c _ => []
  | .cn _ _ => []
  | .cc _ => []
  | .ccn _ _ => []
  | .rn _ _ => []
  | .rcn _ _ => []
  | .dn _ _ _ => []
  | .ha _ => []
  | .hb _ => []
  | .dbn _ _ => []
  | .im _ => []
  | .imn _ _ => []
  | .imc _ => []
  | .imcn _ _ => []
  | .iv _ => []
  | .ic _ => []
  | .icn _ _ => []
  | .icc _ => []
  | .iccn _ _ => []
  | .iha _ => []
  | .ihb _ => []
  | .imP _ _ _ => []
  | .imnP _ _ _ _ => []
  | .imcP _ _ _ => []
  | .imcnP _ _ _ _ => []
  | .ivP _ _ _ => []
  | .icP _ _ _ => []
  | .icnP _ _ _ _ => []
  | .iccP _ _ _ => []
  | .iccnP _ _ _ _ => []
  | .irnP _ _ _ _ => []
  | .ircnP _ _ _ _ => []
  | .ihaP _ _ _ => []
  | .ihbP _ _ _ => []
  | .nop => []
  | .transact => []
  | .cmdFormat => []
  | .addrCheck => []
  | .crcCompute => []
  | .crcEncAscii => []
  | .crcDecAscii => []
  | .crcVerify => []
  | .clear => []
  | .reservedOp9 => []
  | .reservedOpA => []
  | .reservedOpB => []
  | .reservedOpC => []
  | .reservedOpD => []
  | .reservedOpE => []
  | .reservedOpF => []

/-! ## The wire string -/

/-- The wire bytes of an index field that passes its check (R175); a field out of range spells none (log 14). -/
def spelled {α : Type} (text : α → List Byte) (n : Option α) : List Byte :=
  match n with
  | some k => text k
  | none => []

/-- The measurement-set digit of a field. -/
def setText (n : BitVec 10) : List Byte := spelled Machine.SetIndex.text (Machine.SetIndex.ofField n)

/-- The continuous digit of a field. -/
def contText (n : BitVec 10) : List Byte := spelled Machine.ContIndex.text (Machine.ContIndex.ofField n)

/-- The data-set digits of a field. -/
def dataText (n : BitVec 10) : List Byte := spelled Machine.DataIndex.text (Machine.DataIndex.ofField n)

/-- The parameter digits of a field. -/
def paramText (p : BitVec 10) : List Byte := spelled Machine.ParamNumber.text (Machine.ParamNumber.ofField p)

/-- The bytes of an instruction. A command: its wire string (the column "wire" of R126, R180 to R224). A host operation: the word
written to `CTRL`, bits 31:4 zero, byte 0 first (R125). -/
def encode (i : Instr) : List Byte :=
  match i with
  | .ack addr => [addr, Ascii.bang]
  | .query => [Ascii.query, Ascii.bang]
  | .ident addr => [addr, Ascii.I, Ascii.bang]
  | .chaddr addr newAddr => [addr, Ascii.A, newAddr, Ascii.bang]
  | .m addr => [addr, Ascii.M, Ascii.bang]
  | .mn addr n => [addr, Ascii.M] ++ setText n ++ [Ascii.bang]
  | .mc addr => [addr, Ascii.M, Ascii.C, Ascii.bang]
  | .mcn addr n => [addr, Ascii.M, Ascii.C] ++ setText n ++ [Ascii.bang]
  | .v addr => [addr, Ascii.V, Ascii.bang]
  | .c addr => [addr, Ascii.C, Ascii.bang]
  | .cn addr n => [addr, Ascii.C] ++ setText n ++ [Ascii.bang]
  | .cc addr => [addr, Ascii.C, Ascii.C, Ascii.bang]
  | .ccn addr n => [addr, Ascii.C, Ascii.C] ++ setText n ++ [Ascii.bang]
  | .rn addr n => [addr, Ascii.R] ++ contText n ++ [Ascii.bang]
  | .rcn addr n => [addr, Ascii.R, Ascii.C] ++ contText n ++ [Ascii.bang]
  | .dn addr n _ => [addr, Ascii.D] ++ dataText n ++ [Ascii.bang]
  | .ha addr => [addr, Ascii.H, Ascii.A, Ascii.bang]
  | .hb addr => [addr, Ascii.H, Ascii.B, Ascii.bang]
  | .dbn addr n => [addr, Ascii.D, Ascii.B] ++ dataText n ++ [Ascii.bang]
  | .im addr => [addr, Ascii.I, Ascii.M, Ascii.bang]
  | .imn addr n => [addr, Ascii.I, Ascii.M] ++ setText n ++ [Ascii.bang]
  | .imc addr => [addr, Ascii.I, Ascii.M, Ascii.C, Ascii.bang]
  | .imcn addr n => [addr, Ascii.I, Ascii.M, Ascii.C] ++ setText n ++ [Ascii.bang]
  | .iv addr => [addr, Ascii.I, Ascii.V, Ascii.bang]
  | .ic addr => [addr, Ascii.I, Ascii.C, Ascii.bang]
  | .icn addr n => [addr, Ascii.I, Ascii.C] ++ setText n ++ [Ascii.bang]
  | .icc addr => [addr, Ascii.I, Ascii.C, Ascii.C, Ascii.bang]
  | .iccn addr n => [addr, Ascii.I, Ascii.C, Ascii.C] ++ setText n ++ [Ascii.bang]
  | .iha addr => [addr, Ascii.I, Ascii.H, Ascii.A, Ascii.bang]
  | .ihb addr => [addr, Ascii.I, Ascii.H, Ascii.B, Ascii.bang]
  | .imP addr p _ => [addr, Ascii.I, Ascii.M, Ascii.underscore] ++ paramText p ++ [Ascii.bang]
  | .imnP addr n p _ => [addr, Ascii.I, Ascii.M] ++ setText n ++ [Ascii.underscore] ++ paramText p ++ [Ascii.bang]
  | .imcP addr p _ => [addr, Ascii.I, Ascii.M, Ascii.C, Ascii.underscore] ++ paramText p ++ [Ascii.bang]
  | .imcnP addr n p _ => [addr, Ascii.I, Ascii.M, Ascii.C] ++ setText n ++ [Ascii.underscore] ++ paramText p ++ [Ascii.bang]
  | .ivP addr p _ => [addr, Ascii.I, Ascii.V, Ascii.underscore] ++ paramText p ++ [Ascii.bang]
  | .icP addr p _ => [addr, Ascii.I, Ascii.C, Ascii.underscore] ++ paramText p ++ [Ascii.bang]
  | .icnP addr n p _ => [addr, Ascii.I, Ascii.C] ++ setText n ++ [Ascii.underscore] ++ paramText p ++ [Ascii.bang]
  | .iccP addr p _ => [addr, Ascii.I, Ascii.C, Ascii.C, Ascii.underscore] ++ paramText p ++ [Ascii.bang]
  | .iccnP addr n p _ => [addr, Ascii.I, Ascii.C, Ascii.C] ++ setText n ++ [Ascii.underscore] ++ paramText p ++ [Ascii.bang]
  | .irnP addr n p _ => [addr, Ascii.I, Ascii.R] ++ contText n ++ [Ascii.underscore] ++ paramText p ++ [Ascii.bang]
  | .ircnP addr n p _ => [addr, Ascii.I, Ascii.R, Ascii.C] ++ contText n ++ [Ascii.underscore] ++ paramText p ++ [Ascii.bang]
  | .ihaP addr p _ => [addr, Ascii.I, Ascii.H, Ascii.A, Ascii.underscore] ++ paramText p ++ [Ascii.bang]
  | .ihbP addr p _ => [addr, Ascii.I, Ascii.H, Ascii.B, Ascii.underscore] ++ paramText p ++ [Ascii.bang]
  | .x addr body _ => addr :: body ++ [Ascii.bang]
  | .nop => [0x00, 0, 0, 0]
  | .transact => [0x01, 0, 0, 0]
  | .cmdFormat => [0x02, 0, 0, 0]
  | .addrCheck => [0x03, 0, 0, 0]
  | .crcCompute => [0x04, 0, 0, 0]
  | .crcEncAscii => [0x05, 0, 0, 0]
  | .crcDecAscii => [0x06, 0, 0, 0]
  | .crcVerify => [0x07, 0, 0, 0]
  | .clear => [0x08, 0, 0, 0]
  | .reservedOp9 => [0x09, 0, 0, 0]
  | .reservedOpA => [0x0A, 0, 0, 0]
  | .reservedOpB => [0x0B, 0, 0, 0]
  | .reservedOpC => [0x0C, 0, 0, 0]
  | .reservedOpD => [0x0D, 0, 0, 0]
  | .reservedOpE => [0x0E, 0, 0, 0]
  | .reservedOpF => [0x0F, 0, 0, 0]

/-- What stands before the final `!`, when no other `!` stands in the bytes (R105, R127). -/
def frameBody (bs : List Byte) : Option (List Byte) :=
  match bs with
  | [] => none
  | b :: rest =>
    if b = Ascii.bang then (match rest with | [] => some [] | _ :: _ => none)
    else (frameBody rest).map (b :: ·)

/-- The value of an ASCII digit. -/
def digitVal (b : Byte) : Option Nat :=
  if 0x30#8 ≤ b ∧ b ≤ 0x39#8 then some (b.toNat - 48) else none

/-- A digit field from `least` on: `1 .. 9` as R108 has it, `least` being 1 (log 13 for the other reading). -/
def setVal (least : Nat) (b : Byte) : Option (BitVec 10) :=
  (digitVal b).bind fun n => if n < least then none else some (BitVec.ofNat 10 n)

/-- A digit field `0 .. 9` (R108). -/
def contVal (b : Byte) : Option (BitVec 10) :=
  (digitVal b).map (BitVec.ofNat 10)

/-- Three digits as a number. -/
def threeVal (x y z : Byte) : Option Nat :=
  (digitVal x).bind fun a => (digitVal y).bind fun b => (digitVal z).map fun c => 100 * a + 10 * b + c

/-- A data index: one to three digits, no leading zero (R108: `aD007!` matches no row). -/
def dataVal (t : List Byte) : Option (BitVec 10) :=
  match t with
  | [z] => contVal z
  | [y, z] => if y = Ascii.zero then none else (threeVal Ascii.zero y z).map (BitVec.ofNat 10)
  | [x, y, z] => if x = Ascii.zero then none else (threeVal x y z).map (BitVec.ofNat 10)
  | _ => none

/-- A parameter number after `_`: exactly three digits, from `least` on: `001 .. 999` as R108 has it. -/
def paramVal (least : Nat) (u x y z : Byte) : Option (BitVec 10) :=
  if u = Ascii.underscore then
    (threeVal x y z).bind fun n => if n < least then none else some (BitVec.ofNat 10 n)
  else none

/-- What follows a literal prefix: nothing. -/
def tailNone (i : Instr) (t : List Byte) : Option Instr :=
  match t with
  | [] => some i
  | _ => none

/-- What follows a literal prefix: nothing, or a digit from `least` on. -/
def tailSet (least : Nat) (i : Instr) (f : BitVec 10 → Instr) (t : List Byte) : Option Instr :=
  match t with
  | [] => some i
  | [d] => (setVal least d).map f
  | _ => none

/-- What follows a literal prefix: a digit `0 .. 9`. -/
def tailCont (f : BitVec 10 → Instr) (t : List Byte) : Option Instr :=
  match t with
  | [d] => (contVal d).map f
  | _ => none

/-- What follows a literal prefix: `_ppp`. -/
def tailParam (least : Nat) (f : BitVec 10 → Instr) (t : List Byte) : Option Instr :=
  match t with
  | [u, x, y, z] => (paramVal least u x y z).map f
  | _ => none

/-- What follows a literal prefix: `d_ppp` with the digit read by `dv`. -/
def tailDigitParam (least : Nat) (dv : Byte → Option (BitVec 10)) (f : BitVec 10 → BitVec 10 → Instr) (t : List Byte) : Option Instr :=
  match t with
  | [d, u, x, y, z] => (dv d).bind fun n => (paramVal least u x y z).map (f n)
  | _ => none

/-- The rows 1 to 43 of R126 by literal letters, longest first (R127), each with the reader of what follows the letters;
`least` is the smallest legal set digit and parameter number, 1.
`CRC_EXPECT` is not on the wire: read as 0. -/
def wireRows (least : Nat) (a : Byte) : List (List Byte × (List Byte → Option Instr)) :=
  [ ([Ascii.I, Ascii.M, Ascii.C], fun t => tailSet least (.imc a) (.imcn a) t <|> tailParam least (.imcP a · false) t <|>
      tailDigitParam least (setVal least) (.imcnP a · · false) t),
    ([Ascii.I, Ascii.C, Ascii.C], fun t => tailSet least (.icc a) (.iccn a) t <|> tailParam least (.iccP a · false) t <|>
      tailDigitParam least (setVal least) (.iccnP a · · false) t),
    ([Ascii.I, Ascii.R, Ascii.C], tailDigitParam least contVal (.ircnP a · · false)),
    ([Ascii.I, Ascii.H, Ascii.A], fun t => tailNone (.iha a) t <|> tailParam least (.ihaP a · false) t),
    ([Ascii.I, Ascii.H, Ascii.B], fun t => tailNone (.ihb a) t <|> tailParam least (.ihbP a · false) t),
    ([Ascii.I, Ascii.M], fun t => tailSet least (.im a) (.imn a) t <|> tailParam least (.imP a · false) t <|>
      tailDigitParam least (setVal least) (.imnP a · · false) t),
    ([Ascii.I, Ascii.V], fun t => tailNone (.iv a) t <|> tailParam least (.ivP a · false) t),
    ([Ascii.I, Ascii.C], fun t => tailSet least (.ic a) (.icn a) t <|> tailParam least (.icP a · false) t <|>
      tailDigitParam least (setVal least) (.icnP a · · false) t),
    ([Ascii.I, Ascii.R], tailDigitParam least contVal (.irnP a · · false)),
    ([Ascii.M, Ascii.C], tailSet least (.mc a) (.mcn a)),
    ([Ascii.C, Ascii.C], tailSet least (.cc a) (.ccn a)),
    ([Ascii.R, Ascii.C], tailCont (.rcn a)),
    ([Ascii.H, Ascii.A], tailNone (.ha a)),
    ([Ascii.H, Ascii.B], tailNone (.hb a)),
    ([Ascii.D, Ascii.B], fun t => (dataVal t).map (.dbn a)),
    ([Ascii.I], tailNone (.ident a)),
    ([Ascii.A], fun t => match t with | [b] => some (.chaddr a b) | _ => none),
    ([Ascii.M], tailSet least (.m a) (.mn a)),
    ([Ascii.V], tailNone (.v a)),
    ([Ascii.C], tailSet least (.c a) (.cn a)),
    ([Ascii.R], tailCont (.rn a)),
    ([Ascii.D], fun t => (dataVal t).map (.dn a · false)),
    ([], tailNone (if a = Ascii.query then .query else .ack a)) ]

/-- The rest of `t` after the literal bytes `p`. -/
def dropLiteral (p t : List Byte) : Option (List Byte) :=
  match p, t with
  | [], t => some t
  | _ :: _, [] => none
  | a :: p, b :: t => if a = b then dropLiteral p t else none

/-- The first row whose letters and tail both match. -/
def firstRow (rows : List (List Byte × (List Byte → Option Instr))) (body : List Byte) : Option Instr :=
  match rows with
  | [] => none
  | (p, f) :: rest =>
    match (dropLiteral p body).bind f with
    | some i => some i
    | none => firstRow rest body

/-- The command of rows 1 to 43 a frame spells, set digits and parameter numbers from `least` on. -/
def parseRows (least : Nat) (bs : List Byte) : Option Instr :=
  match bs with
  | [] => none
  | a :: rest => if a = Ascii.bang then none else (frameBody rest).bind (firstRow (wireRows least a))

/-- The `X` command a frame spells: a body of legal bytes (R127). -/
def parseExtended (bs : List Byte) : Option Instr :=
  match bs with
  | [] => none
  | a :: rest =>
    if a = Ascii.bang then none
    else (frameBody rest).bind fun body => if body.all Machine.isBodyByte then some (.x a body false) else none

/-- The command a wire string spells (R127): rows 1 to 43 first, then `X` for a body of legal bytes that matches no other row.
The block itself holds no such parser (N22): this one reads the opcode table's rows. -/
def parseWire (bs : List Byte) : Option Instr :=
  match parseRows 1 bs with
  | some i => some i
  | none => parseExtended bs

/-! ## The rows of the opcode table -/

/-- The instruction a byte string spells: a command frame, or else the four bytes of a `CTRL` word, byte 0 first. -/
def decode (bs : List Byte) : Except DecodeError Instr :=
  match parseWire bs with
  | some i => .ok i
  | none =>
    match bs with
    | [b0, b1, b2, b3] => .ok (decodeOp (b3 ++ b2 ++ b1 ++ b0))
    | _ => .error .noFrame

/-- A row of `Dn` or `DBn` stops before the variable digits and the `!` (R127): the frame closed after its first digit. -/
def closeDataFrame (bs : List Byte) : Option Instr :=
  match parseWire (bs ++ [Ascii.bang]) with
  | some (.dn a n crc) => some (.dn a n crc)
  | some (.dbn a n) => some (.dbn a n)
  | _ => none

/-- The command whose row the bytes of a row's word match. `match` and `mask` do not check that a digit is in range (R127: a
necessary condition only), so a digit or number 0 out of range makes the row's command with the ill-formed operand 0, before `X`. -/
def rowCommand (bs : List Byte) : Option Instr :=
  match parseRows 0 bs with
  | some i => some i
  | none =>
    match parseExtended bs with
    | some i => some i
    | none => closeDataFrame bs

/-- The instruction of a row's word (log 13): `w` is numbered with byte 0 in bits 7:0 (a command row's bytes, a host operation's
`CTRL` word). Bytes that spell no command in this order are read as the table's hexadecimal strings write them, byte 0 in the highest
bits. A single byte is the row of `X`, an address with no body byte. Anything else is a `CTRL` word, its bits above `nbits` zero. -/
def decodeTableWord (nbits w : Nat) : Option Instr :=
  let bs := Machine.bytesLE (nbits / 8) w
  match rowCommand bs with
  | some i => some i
  | none =>
    match rowCommand bs.reverse with
    | some i => some i
    | none =>
      if nbits = 8 then some (.x (BitVec.ofNat 8 w) [] false)
      else if nbits ≤ 32 then some (decodeOp (BitVec.ofNat 32 (w % 2 ^ nbits)))
      else none

end Sys2Proof
end

