-- ==== Sys2Proof/Machine/Crc.lean ====
section
/-! DEFINITION. The CRC codec's pure functions (R151 to R157 of `40_crc_codec.md`). -/

namespace Sys2Proof.Machine

/-- One of the eight shifts of `crc16_update` (R151). -/
def crc16Shift (c : BitVec 16) : BitVec 16 :=
  if c.getLsbD 0 then (c >>> 1) ^^^ 0xA001#16 else c >>> 1

/-- `crc16_update(c, b)` (R151). -/
def crc16Update (c : BitVec 16) (b : Byte) : BitVec 16 :=
  crc16Shift (crc16Shift (crc16Shift (crc16Shift (crc16Shift (crc16Shift (crc16Shift (crc16Shift
    (c ^^^ b.setWidth 16))))))))

/-- `crc16(s)` (R151): CRC-16/ARC, initial value 0. -/
def crc16 (s : List Byte) : BitVec 16 :=
  s.foldl crc16Update 0

/-- Three CRC characters, `c0` first on the wire (R153). -/
structure CrcText where
  c0 : Byte
  c1 : Byte
  c2 : Byte
deriving DecidableEq, Repr

/-- `enc3(c)` (R153): the split is 4, 6, 6 from the most significant end (C2). -/
def enc3 (c : BitVec 16) : CrcText where
  c0 := 0x40#8 ||| (c.extractLsb' 12 4).setWidth 8
  c1 := 0x40#8 ||| (c.extractLsb' 6 6).setWidth 8
  c2 := 0x40#8 ||| (c.extractLsb' 0 6).setWidth 8

/-- `dec3(C0, C1, C2)` (R154): `none` is `CrcDecode`. -/
def dec3 (t : CrcText) : Option (BitVec 16) :=
  if t.c0 < 0x40#8 ∨ 0x4F#8 < t.c0 then none
  else if t.c1 < 0x40#8 ∨ 0x7F#8 < t.c1 then none
  else if t.c2 < 0x40#8 ∨ 0x7F#8 < t.c2 then none
  else some (((t.c0.extractLsb' 0 4).setWidth 16 <<< 12) ||| ((t.c1.extractLsb' 0 6).setWidth 16 <<< 6) |||
    (t.c2.extractLsb' 0 6).setWidth 16)

/-- `encb(c)` (R156): low byte first. -/
def encb (c : BitVec 16) : Byte × Byte :=
  (c.extractLsb' 0 8, c.extractLsb' 8 8)

/-- `decb(B0, B1)` (R156). -/
def decb (b0 b1 : Byte) : BitVec 16 :=
  b0.setWidth 16 ||| (b1.setWidth 16 <<< 8)

/-- The result of `verify` (R157). -/
inductive VerifyResult where
  | ok (computed : BitVec 16)
  | crcMismatch (computed received : BitVec 16)
  | crcDecode
deriving DecidableEq, Repr

/-- A computed and a received CRC, compared (R157). -/
def compareCrc (computed received : BitVec 16) : VerifyResult :=
  if computed = received then .ok computed else .crcMismatch computed received

/-- `verify_ascii(s)` (R157): the checked part followed by three CRC characters. -/
def verifyAscii (s : List Byte) : VerifyResult :=
  match s.drop (s.length - 3) with
  | [a, b, c] =>
    match dec3 ⟨a, b, c⟩ with
    | none => .crcDecode
    | some rx => compareCrc (crc16 (s.take (s.length - 3))) rx
  | _ => .crcDecode

/-- `verify_binary(s)` (R157): the checked part followed by two CRC bytes. -/
def verifyBinary (s : List Byte) : VerifyResult :=
  match s.drop (s.length - 2) with
  | [a, b] => compareCrc (crc16 (s.take (s.length - 2))) (decb a b)
  | _ => .crcDecode

end Sys2Proof.Machine
end

