-- ==== Sys2Proof/Machine/State.lean ====
section
/-! DEFINITION. The state of the block (R20 to R51, R61 of `10_state.md`), the error kinds (R330 of `60_exceptions.md`), and the
reasons for which a step of the model stops. -/

namespace Sys2Proof.Machine

/-- `r.state` (R20 of `10_state.md`): the nine states; codes 9 to 15 are never written. -/
inductive FsmState where
  | idle
  | breakSent
  | markingWait
  | commandSent
  | awaitingResponse
  | validating
  | success
  | retry
  | failed
deriving DecidableEq, Repr, Inhabited

/-- The error kinds (R330 of `60_exceptions.md`); codes 11 to 15 are never written. -/
inductive ErrKind where
  | noError
  | invalidAddress
  | indexOutOfRange
  | capacity
  | transport
  | timeout
  | addressMismatch
  | crcMismatch
  | terminator
  | crcDecode
  | illegalEncoding
deriving DecidableEq, Repr, Inhabited

/-- One buffer: cells (index, byte) with strictly rising indices. A cell that is not listed has never been written: it holds no
value of the model's choosing (R62, R80, U1; log 5, log 6). -/
abbrev Memory := List Host.Cell

/-- Why a step stops with a fault. -/
inductive Fault where
  /-- Raised by the engine phase when it would read byte `i` of a buffer at or beyond the buffer's size. R77 (`20_memory.md`) says
  the engine's accesses are always in range, so no run reaches it. Safe (log 8). -/
  | engineReadOutside (sp : Space) (i : Nat)
  /-- Raised by the engine phase when it would store a received byte at or beyond the size of `RXBUF`. R77: never reached.
  Safe (log 8). -/
  | engineWriteOutside (sp : Space) (i : Nat)
deriving DecidableEq, Repr

/-- Why a step is refused. -/
inductive Refusal where
  /-- Raised by an arm of `exec` for an instruction that has no meaning yet; no arm does. Safe. -/
  | notModelled (mnemonic : String)
deriving DecidableEq, Repr

/-- The whole state. -/
structure State where
  /-- the parameters of the instance (R8); no step changes them -/
  params     : Params
  /-- `r.state` (R20) -/
  state      : FsmState
  /-- `r.tx_len` (R22) -/
  txLen      : BitVec 16
  /-- `r.tx_ptr` (R22) -/
  txPtr      : BitVec 16
  /-- `r.rx_len` (R22) -/
  rxLen      : BitVec 16
  /-- `r.rx_need` (R22, R269) -/
  rxNeed     : BitVec 17
  /-- `r.t0` (R22) -/
  t0         : Instant
  /-- `r.t_dead` (R22) -/
  tDead      : Instant
  /-- `r.t_last` (R22) -/
  tLast      : Instant
  /-- `r.retry_cnt` (R22) -/
  retryCnt   : BitVec 8
  /-- `r.err` (R22) -/
  err        : ErrKind
  /-- `r.terr` (R22) -/
  terr       : Byte
  /-- `r.pay_start` (R22) -/
  payStart   : BitVec 16
  /-- `r.pay_end` (R22) -/
  payEnd     : BitVec 16
  /-- `r.fmt` (R22, R298) -/
  fmt        : Framing
  /-- `r.crc_present` (R22) -/
  crcPresent : Bool
  /-- `r.framing` (R22, R271) -/
  framing    : Framing
  /-- `r.break_o` (R22) -/
  breakO     : Bool
  /-- `r.last_valid` (R22, R37) -/
  lastValid  : Bool
  /-- `r.last_addr` (R22, R37) -/
  lastAddr   : Byte
  /-- `r.last_t` (R22, R37) -/
  lastT      : Instant
  /-- `r.done` (R22, R31) -/
  done       : Bool
  /-- `r.ovr` (R22, R32) -/
  ovr        : Bool
  /-- `CFG` (R44) -/
  cfg        : Word
  /-- `CMD0` (R45) -/
  cmd0       : Word
  /-- `CMD1` (R46) -/
  cmd1       : Word
  /-- `T_OVR` (R47) -/
  tOvr       : Word
  /-- `TX_CAP`, its defined bits 15:0 (R47) -/
  txCap      : BitVec 16
  /-- `RX_CAP`, its defined bits 15:0 (R47) -/
  rxCap      : BitVec 16
  /-- `ABORT_AT_LO` (R48) -/
  abortLo    : Word
  /-- `ABORT_AT_HI` (R48) -/
  abortHi    : Word
  /-- `CRC_VAL`, its defined bits 15:0 (R49) -/
  crcVal     : BitVec 16
  /-- `CRC_TXT`, its defined bits 23:0 (R49) -/
  crcTxt     : BitVec 24
  /-- `CRC_START`, its defined bits 15:0 (R49) -/
  crcStart   : BitVec 16
  /-- `CRC_END`, its defined bits 15:0 (R49) -/
  crcEnd     : BitVec 16
  /-- `CRC_CTL`, its defined bits 2:0 (R49) -/
  crcCtl     : BitVec 3
  /-- `TXBUF` (R34) -/
  txbuf      : Memory
  /-- `RXBUF` (R34) -/
  rxbuf      : Memory
  /-- `XBUF` (R34) -/
  xbuf       : Memory
  /-- the input records of the steps to come, the next one first (R54; log 2) -/
  inputs     : List Input
  /-- how many steps found `inputs` empty: the index of the free input (log 3) -/
  envIdx     : Nat
  /-- the input record of the step in progress (R54) -/
  cur        : Input
  /-- the output record of the last step (R59) -/
  out        : Output
deriving DecidableEq, Repr, Inhabited

/-- The reset value of `CFG` (R44): `RETRY_MAX` = `RETRY_MAX_RESET`, `BREAK_SKIP_EN` and `RETRY_BREAK` 1. -/
def cfgReset : Word := 0x00000600 ||| BitVec.ofNat 32 Config.retryMaxReset

/-- The state right after a reset of an instance with parameters `p` (the table of R61), with no buffer byte written (R62), no input
waiting, and the output record of a reset step. -/
def State.resetWith (p : Params) : State where
  params := p
  state := .idle
  txLen := 0
  txPtr := 0
  rxLen := 0
  rxNeed := 0
  t0 := 0
  tDead := 0
  tLast := 0
  retryCnt := 0
  err := .noError
  terr := 0
  payStart := 0
  payEnd := 0
  fmt := .ascii7E1
  crcPresent := false
  framing := .ascii7E1
  breakO := false
  lastValid := false
  lastAddr := 0
  lastT := 0
  done := false
  ovr := false
  cfg := cfgReset
  cmd0 := 0
  cmd1 := 0
  tOvr := 0
  txCap := BitVec.ofNat 16 p.txbufSize
  rxCap := BitVec.ofNat 16 p.rxbufSize
  abortLo := 0
  abortHi := 0
  crcVal := 0
  crcTxt := 0
  crcStart := 0
  crcEnd := 0
  crcCtl := 0
  txbuf := []
  rxbuf := []
  xbuf := []
  inputs := []
  envIdx := 0
  cur := Input.quiet 0
  out := Output.atReset

/-- The machine right after reset (R61), with the suggested parameters of R8 (log 1). -/
def State.reset : State := State.resetWith Params.suggested

end Sys2Proof.Machine
end

