-- ==== Sys2Proof/Machine/Flags.lean ====
section
/-! DEFINITION. The flags and the register views made of them: state and error codes, `BUSY`, the interrupt line, the fields of
`CFG`, and the words `STATUS`, `RESULT` and `LAST` read as (R20, R30, R42 to R44, R51 of `10_state.md`, R330, R340 of
`60_exceptions.md`). -/

namespace Sys2Proof.Machine

/-- The code of a state (R20). -/
def FsmState.code (q : FsmState) : BitVec 4 :=
  match q with
  | .idle => 0
  | .breakSent => 1
  | .markingWait => 2
  | .commandSent => 3
  | .awaitingResponse => 4
  | .validating => 5
  | .success => 6
  | .retry => 7
  | .failed => 8

/-- The busy states (R14 of `00_scope.md`, R30). -/
def FsmState.busy (q : FsmState) : Bool :=
  match q with
  | .idle => false
  | .breakSent => true
  | .markingWait => true
  | .commandSent => true
  | .awaitingResponse => true
  | .validating => true
  | .success => false
  | .retry => true
  | .failed => false

/-- `code(E)` (R330). -/
def ErrKind.code (e : ErrKind) : BitVec 4 :=
  match e with
  | .noError => 0
  | .invalidAddress => 1
  | .indexOutOfRange => 2
  | .capacity => 3
  | .transport => 4
  | .timeout => 5
  | .addressMismatch => 6
  | .crcMismatch => 7
  | .terminator => 8
  | .crcDecode => 9
  | .illegalEncoding => 10

/-- The bit of a framing mode or a frame-format tag (R22). -/
def framingBit (f : Framing) : BitVec 1 :=
  match f with
  | .ascii7E1 => 0
  | .binary8N1 => 1

/-- `BUSY` (R30). -/
def State.busy (s : State) : Bool := s.state.busy

/-- `CFG.RETRY_MAX` (R44). -/
def State.retryMax (s : State) : BitVec 8 := s.cfg.extractLsb' 0 8

/-- `CFG.RETRY_VALIDATION` (R44). -/
def State.retryValidation (s : State) : Bool := s.cfg.getLsbD 8

/-- `CFG.BREAK_SKIP_EN` (R44). -/
def State.breakSkipEn (s : State) : Bool := s.cfg.getLsbD 9

/-- `CFG.RETRY_BREAK` (R44). -/
def State.retryBreak (s : State) : Bool := s.cfg.getLsbD 10

/-- `CFG.ABORT_EN` (R44). -/
def State.abortEn (s : State) : Bool := s.cfg.getLsbD 11

/-- `CFG.IRQ_EN` (R44). -/
def State.irqEn (s : State) : Bool := s.cfg.getLsbD 12

/-- `ABORT_AT` (R48). -/
def State.abortAt (s : State) : Instant := s.abortHi ++ s.abortLo

/-- The value of `out.irq_o` in a state (R340): `r.done = 1 and CFG.IRQ_EN = 1`. -/
def State.irq (s : State) : Bool := s.done && s.irqEn

/-- The word `STATUS` reads as (R42). -/
def State.statusWord (s : State) : Word :=
  0#21 ++ BitVec.ofBool s.irq ++ BitVec.ofBool s.lastValid ++ BitVec.ofBool s.breakO ++ BitVec.ofBool s.ovr ++
    framingBit s.framing ++ BitVec.ofBool s.done ++ BitVec.ofBool s.busy ++ s.state.code

/-- The word `RESULT` reads as (R43). -/
def State.resultWord (s : State) : Word :=
  0#14 ++ BitVec.ofBool s.crcPresent ++ framingBit s.fmt ++ s.terr ++ 0#4 ++ s.err.code

/-- The word `LAST` reads as (R51). -/
def State.lastWord (s : State) : Word :=
  0#23 ++ BitVec.ofBool s.lastValid ++ s.lastAddr

end Sys2Proof.Machine
end

