-- ==== Sys2Proof/Machine/Operands.lean ====
section
/-! DEFINITION. The operand forms: the checks that turn a raw descriptor field into an operand (R106, R121, R172, R175), the wire
string of a command (R123), and what a transaction takes from its descriptor (R111 to R113 of `30_encoding.md`, R262 of
`43_receive_validate.md`). -/

namespace Sys2Proof.Machine

/-! ## From a raw field to an operand -/

/-- A sensor address, or `InvalidAddress` (R106, R107: the wildcard too). -/
def withAddr (addr : Byte) (k : Except ErrKind (List Byte)) : Except ErrKind (List Byte) :=
  if isSensorAddr addr then k else .error .invalidAddress

/-- A check that gives an index, or `IndexOutOfRange` (R172, R175 steps 5 and 6). -/
def withIndex {α : Type} (n : Option α) (k : α → Except ErrKind (List Byte)) : Except ErrKind (List Byte) :=
  match n with
  | some m => k m
  | none => .error .indexOutOfRange

/-- The index of a form with a measurement-set digit, `1 .. 9` (R108: the index 0 is the form without). -/
def withSetDigit (n : BitVec 10) (k : SetIndex → Except ErrKind (List Byte)) : Except ErrKind (List Byte) :=
  if n = 0 then .error .indexOutOfRange else withIndex (SetIndex.ofField n) k

/-- A continuous-measurement index `0 .. 9` (R108). -/
def withContDigit (n : BitVec 10) (k : ContIndex → Except ErrKind (List Byte)) : Except ErrKind (List Byte) :=
  withIndex (ContIndex.ofField n) k

/-- A data-set index `0 .. 999` (R108). -/
def withDataIndex (n : BitVec 10) (k : DataIndex → Except ErrKind (List Byte)) : Except ErrKind (List Byte) :=
  withIndex (DataIndex.ofField n) k

/-- A metadata parameter number `1 .. 999` (R108). -/
def withParam (p : BitVec 10) (k : ParamNumber → Except ErrKind (List Byte)) : Except ErrKind (List Byte) :=
  withIndex (ParamNumber.ofField p) k

/-- An extended body that fits `XBUF` and holds legal bytes, or `IllegalEncoding` (R224, R175 step 7). -/
def withBody (xbufSize : Nat) (body : List Byte) (k : Except ErrKind (List Byte)) : Except ErrKind (List Byte) :=
  if body.length ≤ xbufSize ∧ body.all isBodyByte = true then k else .error .illegalEncoding

/-! ## The descriptor as a whole -/

/-- The kinds that have a form with `META = 1` (R122). -/
def hasIdentify (k : Kind) : Bool :=
  match k with
  | .m | .mc | .v | .c | .cc | .ha | .hb => true
  | .ack | .ident | .chaddr | .r | .rc | .d | .db | .x => false

/-- The kinds that have a form with `META = 2` (R122). -/
def hasIdentifyParam (k : Kind) : Bool :=
  match k with
  | .m | .mc | .v | .c | .cc | .r | .rc | .ha | .hb => true
  | .ack | .ident | .chaddr | .d | .db | .x => false

/-- A command family with its index, each index of its own bounded type (R121, R172). -/
inductive Family where
  | ack
  | ident
  | chaddr
  | m (n : SetIndex)
  | mc (n : SetIndex)
  | v
  | c (n : SetIndex)
  | cc (n : SetIndex)
  | r (n : ContIndex)
  | rc (n : ContIndex)
  | d (n : DataIndex)
  | ha
  | hb
  | db (n : DataIndex)
  | x
deriving DecidableEq, Repr

/-- Step 5 of R175: the family of a kind and an index field; `none` is `IndexOutOfRange`. A kind without an index does not look at
the field (R120). -/
def Family.ofFields (k : Kind) (idx : BitVec 10) : Option Family :=
  match k with
  | .ack => some .ack
  | .ident => some .ident
  | .chaddr => some .chaddr
  | .m => (SetIndex.ofField idx).map .m
  | .mc => (SetIndex.ofField idx).map .mc
  | .v => some .v
  | .c => (SetIndex.ofField idx).map .c
  | .cc => (SetIndex.ofField idx).map .cc
  | .r => (ContIndex.ofField idx).map .r
  | .rc => (ContIndex.ofField idx).map .rc
  | .d => (DataIndex.ofField idx).map .d
  | .ha => some .ha
  | .hb => some .hb
  | .db => (DataIndex.ofField idx).map .db
  | .x => some .x

/-- A command form (R122): the command, its identify form, or its identify form with a parameter number. -/
inductive Form where
  | command
  | identify
  | identifyParam (p : ParamNumber)
deriving DecidableEq, Repr

/-- Step 6 of R175: the form of a `META` field and a parameter field; `none` is `IndexOutOfRange`. `META` = 3 is refused before (step
2) and has no form. -/
def Form.ofFields (metaForm : BitVec 2) (param : BitVec 10) : Option Form :=
  match metaForm.toNat with
  | 0 => some .command
  | 1 => some .identify
  | 2 => (ParamNumber.ofField param).map .identifyParam
  | _ => none

/-- `body(d)` (R121); `xbody` is `XBUF[0 .. XLEN)`. -/
def wireBody (f : Family) (newAddr : Byte) (xbody : List Byte) : List Byte :=
  match f with
  | .ack => []
  | .ident => [Ascii.I]
  | .chaddr => [Ascii.A, newAddr]
  | .m n => [Ascii.M] ++ n.text
  | .mc n => [Ascii.M, Ascii.C] ++ n.text
  | .v => [Ascii.V]
  | .c n => [Ascii.C] ++ n.text
  | .cc n => [Ascii.C, Ascii.C] ++ n.text
  | .r n => [Ascii.R] ++ n.text
  | .rc n => [Ascii.R, Ascii.C] ++ n.text
  | .d n => [Ascii.D] ++ n.text
  | .ha => [Ascii.H, Ascii.A]
  | .hb => [Ascii.H, Ascii.B]
  | .db n => [Ascii.D, Ascii.B] ++ n.text
  | .x => xbody

/-- `wire(d)` (R123 of `30_encoding.md`) of a command whose fields have passed their checks. -/
def wire (addr newAddr : Byte) (f : Family) (form : Form) (xbody : List Byte) : List Byte :=
  match form with
  | .command => [addr] ++ wireBody f newAddr xbody ++ [Ascii.bang]
  | .identify => [addr, Ascii.I] ++ wireBody f newAddr xbody ++ [Ascii.bang]
  | .identifyParam p => [addr, Ascii.I] ++ wireBody f newAddr xbody ++ [Ascii.underscore] ++ p.text ++ [Ascii.bang]

/-- Steps 2 to 7 of `check_descriptor` (R175 of `41_address_command.md`), in its order; then the wire string. -/
def checkedWire (xbufSize : Nat) (d : Descriptor) (xbody : List Byte) : Except ErrKind (List Byte) :=
  match Kind.ofCode d.kind with
  | none => .error .illegalEncoding
  | some k =>
    if d.metaForm = 3 then .error .illegalEncoding
    else if d.metaForm = 1 ∧ hasIdentify k = false then .error .illegalEncoding
    else if d.metaForm = 2 ∧ hasIdentifyParam k = false then .error .illegalEncoding
    else if isAddr d.addr = false then .error .invalidAddress
    else if d.addr = Ascii.query ∧ ¬(k = .ack ∧ d.metaForm = 0) then .error .invalidAddress
    else if k = .chaddr ∧ isSensorAddr d.newAddr = false then .error .invalidAddress
    else
      withIndex (Family.ofFields k d.idx) fun f =>
        withIndex (Form.ofFields d.metaForm d.param) fun form =>
          if k = .x ∧ xbufSize < d.xlen.toNat then .error .illegalEncoding
          else if k = .x ∧ xbody.all isBodyByte = false then .error .illegalEncoding
          else .ok (wire d.addr d.newAddr f form xbody)

/-- `crc_mode` (R111 of `30_encoding.md`). -/
inductive CrcMode where
  | none
  | ascii
  | binary
deriving DecidableEq, Repr

/-- `crc_mode(d)` (R111). -/
def crcMode (d : Descriptor) : CrcMode :=
  if d.kind = Kind.db.code then .binary
  else if d.kind = Kind.rc.code ∧ d.metaForm = 0 then .ascii
  else if d.crcExpect = true ∧ (d.kind = Kind.d.code ∨ d.kind = Kind.x.code ∨ d.metaForm = 2) then .ascii
  else .none

/-- `resp_fmt(d)` (R112): only the response to `DB` is binary. -/
def respFmt (d : Descriptor) : Framing :=
  if d.kind = Kind.db.code then .binary8N1 else .ascii7E1

/-- `addr_ok(d, c)` (R113): the address a response must begin with. -/
def addrOk (d : Descriptor) (c : Byte) : Bool :=
  if d.kind = Kind.chaddr.code then c == d.newAddr
  else if d.addr = Ascii.query then isSensorAddr c
  else c == d.addr

/-- The three classes of response deadline (R262 of `43_receive_validate.md`). -/
inductive DeadlineClass where
  | expedited
  | standard
  | measurement
deriving DecidableEq, Repr

/-- The kinds that start a measurement (R262). -/
def startsMeasurement (k : Kind) : Bool :=
  match k with
  | .m | .mc | .v | .c | .cc | .ha | .hb => true
  | .ack | .ident | .chaddr | .r | .rc | .d | .db | .x => false

/-- The deadline class of a descriptor (R262). -/
def deadlineClass (d : Descriptor) : DeadlineClass :=
  match Kind.ofCode d.kind with
  | none => .standard
  | some k =>
    if d.metaForm = 0 ∧ (k = .ack ∨ k = .chaddr) then .expedited
    else if (d.metaForm = 0 ∨ d.metaForm = 1) ∧ startsMeasurement k = true then .measurement
    else .standard

/-- The ticks of a deadline class in an instance (R8). -/
def DeadlineClass.ticks (c : DeadlineClass) (p : Params) : Nat :=
  match c with
  | .expedited => p.tRespExpedited
  | .standard => p.tRespStandard
  | .measurement => p.tRespMeasurement

/-- `T_resp(d)` (R262): a non-zero `T_OVR` replaces the class value. -/
def tResp (p : Params) (tOvr : Word) (d : Descriptor) : Nat :=
  if tOvr = 0 then (deadlineClass d).ticks p else tOvr.toNat

/-- The descriptor in the registers (R120). -/
def State.descriptor (s : State) : Descriptor := Descriptor.ofRegs s.cmd0 s.cmd1

end Sys2Proof.Machine
end

