-- ==== Sys2Proof/Machine/Ops.lean ====
section
/-! DEFINITION. The shared operations: buffer access (`20_memory.md`), recording an error and the paths a failure takes (R306, R311 of
`44_transaction_fsm.md`, R336, R343 of `60_exceptions.md`), accepting an operation (R292, R293), and starting an attempt (R297,
R300). -/

namespace Sys2Proof.Machine

/-- The outcome of a step, of the block's own reasons. -/
abbrev StepOutcome := Host.Outcome State Fault Refusal

/-- What follows a next state; a fault or a refusal stops. -/
def andThen (o : StepOutcome) (f : State → StepOutcome) : StepOutcome :=
  match o with
  | .next s => f s
  | .fault r => .fault r
  | .refused r => .refused r

/-! ## Buffers -/

/-- The cell of index `i`, when something has been stored there. -/
def Memory.lookup (m : Memory) (i : Nat) : Option Byte :=
  match m with
  | [] => none
  | (a, v) :: rest => if a = i then some v else Memory.lookup rest i

/-- `v` stored at index `i`; the indices stay strictly rising. -/
def Memory.store (m : Memory) (i : Nat) (v : Byte) : Memory :=
  match m with
  | [] => [(i, v)]
  | (a, w) :: rest =>
    if i < a then (i, v) :: (a, w) :: rest
    else if i = a then (i, v) :: rest
    else (a, w) :: Memory.store rest i v

/-- Every index of `m` is above `lo`, and they rise strictly. -/
def Memory.risingFrom (lo : Nat) (m : Memory) : Bool :=
  match m with
  | [] => true
  | (a, _) :: rest => decide (lo ≤ a) && Memory.risingFrom (a + 1) rest

/-- The canonical form of a buffer: strictly rising indices. An unlisted index holds no value, so no entry can equal one (log 6). -/
def Memory.wf (m : Memory) : Bool := Memory.risingFrom 0 m

/-- The cells of a buffer. -/
def State.buffer (s : State) (sp : Space) : Memory :=
  match sp with
  | .tx => s.txbuf
  | .rx => s.rxbuf
  | .xb => s.xbuf

/-- The physical size of a buffer (R70 of `20_memory.md`). -/
def State.size (s : State) (sp : Space) : Nat :=
  match sp with
  | .tx => s.params.txbufSize
  | .rx => s.params.rxbufSize
  | .xb => s.params.xbufSize

/-- `MemRead(space, i, 1)` (R72): a byte nothing has stored is the free value of U1 (log 5). -/
def State.read (s : State) (sp : Space) (i : Nat) : Byte :=
  match (s.buffer sp).lookup i with
  | some v => v
  | none => Config.unwrittenByte sp i

/-- `MemWrite(space, i, 1, v)` (R72). -/
def State.write (s : State) (sp : Space) (i : Nat) (v : Byte) : State :=
  match sp with
  | .tx => { s with txbuf := s.txbuf.store i v }
  | .rx => { s with rxbuf := s.rxbuf.store i v }
  | .xb => { s with xbuf := s.xbuf.store i v }

/-- The bytes `bs` stored from index `i` on. -/
def State.writeBytes (s : State) (sp : Space) (i : Nat) (bs : List Byte) : State :=
  match bs with
  | [] => s
  | b :: rest => (s.write sp i b).writeBytes sp (i + 1) rest

/-- The `n` bytes from index `i` on. -/
def State.readBytes (s : State) (sp : Space) (i n : Nat) : List Byte :=
  match n with
  | 0 => []
  | k + 1 => s.read sp i :: s.readBytes sp (i + 1) k

/-- `XBUF[0 .. XLEN)`, the body the descriptor names (R121, R224). -/
def State.xbody (s : State) : List Byte := s.readBytes .xb 0 s.descriptor.xlen.toNat

/-! ## Errors -/

/-- What raising an error records (R331, R336): the kind and the transport sub-code. -/
def State.recordError (s : State) (e : ErrKind) (sub : Byte) : State :=
  { s with err := e, terr := sub }

/-- `raise E` in a synchronous operation (R336 (a)): the rest of its effects skipped, `r.done <- 1`. -/
def State.raiseSync (s : State) (e : ErrKind) : State :=
  { s.recordError e 0 with done := true }

/-- `raise E` in `TRANSACT` at acceptance (R336 (b), R294). -/
def State.raiseConstruct (s : State) (e : ErrKind) : State :=
  { s.recordError e 0 with txLen := 0, state := .failed, done := true }

/-- `attempt_fail(E, sub)` (R306, R336 (c)): the line released, the framing back to ASCII, then the `Retry` step. -/
def State.attemptFail (s : State) (e : ErrKind) (sub : Byte) : State :=
  { s.recordError e sub with breakO := false, framing := .ascii7E1, state := .retry }

/-- Entry to `Failed` from `Retry` or `fail_final` (R311). -/
def State.enterFailed (s : State) : State :=
  { s with lastValid := false, state := .failed, done := true }

/-- `fail_final(E)` (R306): without passing through `Retry`. -/
def State.failFinal (s : State) (e : ErrKind) : State :=
  State.enterFailed { s.recordError e 0 with breakO := false, framing := .ascii7E1 }

/-! ## Accepting an operation, and the way out of `Success` and `Failed` (R293, R344) -/

/-- The effects common to every accepted operation (R293). -/
def State.accepted (s : State) : State :=
  { s with done := false, state := .idle, err := .noError, terr := 0 }

/-- A write to `CTRL`: accepted in a quiescent state, and refused in a busy one with `r.ovr` set (R41, R292, R293). -/
def accept (s : State) (op : State → State) : StepOutcome :=
  if s.busy then .next { s with ovr := true } else .next (op s.accepted)

/-! ## Starting an attempt -/

/-- Ticks from `t` to the instant of this step (R12 of `00_scope.md`); `t` is an earlier sample (R163 (d); log 17). -/
def State.elapsed (s : State) (t : Instant) : Nat := s.cur.now.toNat - t.toNat

/-- `need_break(is_retry)` (R297). -/
def State.needBreak (s : State) (isRetry : Bool) : Bool :=
  (isRetry && s.retryBreak) || !s.breakSkipEn || !s.lastValid || !(s.lastAddr == s.descriptor.addr) ||
    decide (s.params.tIdle < s.elapsed s.lastT)

/-- `start_attempt(is_retry)` (R300), with the break start of R241. -/
def State.startAttempt (s : State) (isRetry : Bool) : State :=
  let r := { s with err := .noError, terr := 0, rxLen := 0, rxNeed := 0 }
  if r.needBreak isRetry then { r with breakO := true, t0 := r.cur.now, state := .breakSent }
  else { r with txPtr := 0, state := .commandSent }

/-! ## Constructing and issuing a command -/

/-- The construction check around a command's own checks `built` (R175 of `41_address_command.md`): step 1 before them, step 8
after. `forTransact` says whether `RX_CAP` counts. -/
def State.construct (s : State) (forTransact : Bool) (built : Except ErrKind (List Byte)) : Except ErrKind (List Byte) :=
  if s.params.txbufSize < s.txCap.toNat then .error .illegalEncoding
  else if forTransact = true ∧ (s.rxCap = 0 ∨ s.params.rxbufSize < s.rxCap.toNat) then .error .illegalEncoding
  else
    match built with
    | .error e => .error e
    | .ok w => if s.txCap.toNat < w.length then .error .capacity else .ok w

/-- `format_into` (R226): the wire bytes into `TXBUF` from index 0, their number into `r.tx_len`. -/
def State.formatInto (s : State) (w : List Byte) : State :=
  { s.writeBytes .tx 0 w with txLen := BitVec.ofNat 16 w.length }

/-- `TRANSACT` after the common effects (R294): the result registers cleared, then a construction error, or the formatted command
and its first attempt. -/
def State.beginTransaction (s : State) (fmt : Framing) (built : Except ErrKind (List Byte)) : State :=
  let r := { s with retryCnt := 0, rxLen := 0, rxNeed := 0, payStart := 0, payEnd := 0, crcPresent := false, fmt := .ascii7E1 }
  match r.construct true built with
  | .error e => r.raiseConstruct e
  | .ok w => (State.formatInto { r with fmt := fmt } w).startAttempt false

/-- A `TRANSACT` that carries a command with response format `fmt` and construction checks `built` (R176, R294). -/
def issue (s : State) (fmt : Framing) (built : Except ErrKind (List Byte)) : StepOutcome :=
  accept s fun r => r.beginTransaction fmt built

end Sys2Proof.Machine
end

