-- ==== Sys2Proof/Machine/BasicCommands.lean ====
section
/-! DEFINITION. The meanings of ACK to V: acknowledge, identification, address change, basic measurement and verification (R180 to R188 of `41_address_command.md`). Each is the acceptance
step of the `TRANSACT` that carries the command (R176, R294): its own construction checks in the order of R175, its wire bytes, its
response format. `CRC_EXPECT` acts when the response is validated, from `CMD0` (R111). -/

namespace Sys2Proof.Machine

/-- `ACK` (R180): acknowledge active; the wildcard is `QUERY`'s (R181). -/
def execAck (addr : Byte) (s : State) : StepOutcome :=
  issue s .ascii7E1 (withAddr addr (.ok [addr, Ascii.bang]))

/-- `QUERY` (R181): address query: the one command the wildcard addresses (R107). -/
def execQuery (s : State) : StepOutcome :=
  issue s .ascii7E1 (.ok [Ascii.query, Ascii.bang])

/-- `IDENT` (R182): send identification. -/
def execIdent (addr : Byte) (s : State) : StepOutcome :=
  issue s .ascii7E1 (withAddr addr (.ok [addr, Ascii.I, Ascii.bang]))

/-- `CHADDR` (R183): change address: `ADDR` checked before `NEWADDR` (R175 steps 3, 4). -/
def execChaddr (addr : Byte) (newAddr : Byte) (s : State) : StepOutcome :=
  issue s .ascii7E1 (withAddr addr (withAddr newAddr (.ok [addr, Ascii.A, newAddr, Ascii.bang])))

/-- `M` (R184): start measurement. -/
def execM (addr : Byte) (s : State) : StepOutcome :=
  issue s .ascii7E1 (withAddr addr (.ok [addr, Ascii.M, Ascii.bang]))

/-- `Mn` (R185): additional measurement. -/
def execMn (addr : Byte) (n : BitVec 10) (s : State) : StepOutcome :=
  issue s .ascii7E1 (withAddr addr (withSetDigit n fun k => .ok ([addr, Ascii.M] ++ k.text ++ [Ascii.bang])))

/-- `MC` (R186): start measurement and request CRC. -/
def execMc (addr : Byte) (s : State) : StepOutcome :=
  issue s .ascii7E1 (withAddr addr (.ok [addr, Ascii.M, Ascii.C, Ascii.bang]))

/-- `MCn` (R187): additional measurement and request CRC. -/
def execMcn (addr : Byte) (n : BitVec 10) (s : State) : StepOutcome :=
  issue s .ascii7E1 (withAddr addr (withSetDigit n fun k => .ok ([addr, Ascii.M, Ascii.C] ++ k.text ++ [Ascii.bang])))

/-- `V` (R188): start verification. -/
def execV (addr : Byte) (s : State) : StepOutcome :=
  issue s .ascii7E1 (withAddr addr (.ok [addr, Ascii.V, Ascii.bang]))

end Sys2Proof.Machine
end

