-- ==== Sys2Proof/Machine/ConcurrentCommands.lean ====
section
/-! DEFINITION. The meanings of concurrent and continuous measurement (R189 to R194 of `41_address_command.md`). Each is the acceptance
step of the `TRANSACT` that carries the command (R176, R294): its own construction checks in the order of R175, its wire bytes, its
response format. `CRC_EXPECT` acts when the response is validated, from `CMD0` (R111). -/

namespace Sys2Proof.Machine

/-- `C` (R189): start concurrent measurement. -/
def execC (addr : Byte) (s : State) : StepOutcome :=
  issue s .ascii7E1 (withAddr addr (.ok [addr, Ascii.C, Ascii.bang]))

/-- `Cn` (R190): additional concurrent measurement. -/
def execCn (addr : Byte) (n : BitVec 10) (s : State) : StepOutcome :=
  issue s .ascii7E1 (withAddr addr (withSetDigit n fun k => .ok ([addr, Ascii.C] ++ k.text ++ [Ascii.bang])))

/-- `CC` (R191): start concurrent measurement and request CRC. -/
def execCc (addr : Byte) (s : State) : StepOutcome :=
  issue s .ascii7E1 (withAddr addr (.ok [addr, Ascii.C, Ascii.C, Ascii.bang]))

/-- `CCn` (R192): additional concurrent measurement and request CRC. -/
def execCcn (addr : Byte) (n : BitVec 10) (s : State) : StepOutcome :=
  issue s .ascii7E1 (withAddr addr (withSetDigit n fun k => .ok ([addr, Ascii.C, Ascii.C] ++ k.text ++ [Ascii.bang])))

/-- `Rn` (R193): continuous measurement, the digit always sent. -/
def execRn (addr : Byte) (n : BitVec 10) (s : State) : StepOutcome :=
  issue s .ascii7E1 (withAddr addr (withContDigit n fun k => .ok ([addr, Ascii.R] ++ k.text ++ [Ascii.bang])))

/-- `RCn` (R194): continuous measurement and request CRC. -/
def execRcn (addr : Byte) (n : BitVec 10) (s : State) : StepOutcome :=
  issue s .ascii7E1 (withAddr addr (withContDigit n fun k => .ok ([addr, Ascii.R, Ascii.C] ++ k.text ++ [Ascii.bang])))

end Sys2Proof.Machine
end

