-- ==== Sys2Proof/Machine/DataCommands.lean ====
section
/-! DEFINITION. The meanings of send data and the high-volume commands (R195 to R198 of `41_address_command.md`). Each is the acceptance
step of the `TRANSACT` that carries the command (R176, R294): its own construction checks in the order of R175, its wire bytes, its
response format. `CRC_EXPECT` acts when the response is validated, from `CMD0` (R111). -/

namespace Sys2Proof.Machine

/-- `Dn` (R195): send data. -/
def execDn (addr : Byte) (n : BitVec 10) (_crc : Bool) (s : State) : StepOutcome :=
  issue s .ascii7E1 (withAddr addr (withDataIndex n fun k => .ok ([addr, Ascii.D] ++ k.text ++ [Ascii.bang])))

/-- `HA` (R196): start high-volume ASCII measurement. -/
def execHa (addr : Byte) (s : State) : StepOutcome :=
  issue s .ascii7E1 (withAddr addr (.ok [addr, Ascii.H, Ascii.A, Ascii.bang]))

/-- `HB` (R197): start high-volume binary measurement; its own response is ASCII. -/
def execHb (addr : Byte) (s : State) : StepOutcome :=
  issue s .ascii7E1 (withAddr addr (.ok [addr, Ascii.H, Ascii.B, Ascii.bang]))

/-- `DBn` (R198): send binary data, the one command with a `Binary-8N1` response (R112). -/
def execDbn (addr : Byte) (n : BitVec 10) (s : State) : StepOutcome :=
  issue s .binary8N1 (withAddr addr (withDataIndex n fun k => .ok ([addr, Ascii.D, Ascii.B] ++ k.text ++ [Ascii.bang])))

end Sys2Proof.Machine
end

