-- ==== Sys2Proof/Machine/ExtendedCommand.lean ====
section
/-! DEFINITION. The meanings of the extended command (R224 of `41_address_command.md`). Each is the acceptance
step of the `TRANSACT` that carries the command (R176, R294): its own construction checks in the order of R175, its wire bytes, its
response format. `CRC_EXPECT` acts when the response is validated, from `CMD0` (R111). -/

namespace Sys2Proof.Machine

/-- `X` (R224): extended command: the body of `XBUF` sent verbatim. -/
def execX (addr : Byte) (body : List Byte) (_crc : Bool) (s : State) : StepOutcome :=
  issue s .ascii7E1 (withAddr addr (withBody s.params.xbufSize body (.ok ([addr] ++ body ++ [Ascii.bang]))))

end Sys2Proof.Machine
end

