-- ==== Sys2Proof/Machine/HostOps.lean ====
section
/-! DEFINITION. The meanings of the sixteen codes of `CTRL.OP` (R293 of `44_transaction_fsm.md`). -/

namespace Sys2Proof.Machine

/-- The end of a synchronous operation that raised nothing (R293): `r.err` is 0 since acceptance, `r.done <- 1`. -/
def State.completed (s : State) : State := { s with err := .noError, done := true }

/-- `NOP` (R293). -/
def execNop (s : State) : StepOutcome :=
  accept s fun r => r.completed

/-- The construction check over the descriptor registers (R175). -/
def State.builtFromRegs (s : State) : Except ErrKind (List Byte) :=
  checkedWire s.params.xbufSize s.descriptor s.xbody

/-- `TRANSACT` (R294): the command the descriptor registers describe, or the construction error they give. -/
def execTransact (s : State) : StepOutcome :=
  accept s fun r => r.beginTransaction (respFmt r.descriptor) r.builtFromRegs

/-- `CMD_FORMAT` (R225): check and format, nothing sent; on an error `r.tx_len <- 0` and `TXBUF` unchanged. -/
def execCmdFormat (s : State) : StepOutcome :=
  accept s fun r =>
    match r.construct false r.builtFromRegs with
    | .error e => State.raiseSync { r with txLen := 0 } e
    | .ok w => (r.formatInto w).completed

/-- `ADDR_CHECK` (R171). -/
def execAddrCheck (s : State) : StepOutcome :=
  accept s fun r => if isAddr r.descriptor.addr then r.completed else r.raiseSync .invalidAddress

/-- `CRC_CTL.BUF` (R49): 3 is reserved. -/
def State.crcSpace (s : State) : Option Space :=
  match (s.crcCtl.extractLsb' 0 2).toNat with
  | 0 => some .rx
  | 1 => some .tx
  | 2 => some .xb
  | _ => none

/-- The bytes `B[CRC_START .. CRC_END)` of the selected buffer (R158); `none` is `IllegalEncoding`. -/
def State.crcRange (s : State) : Option (List Byte) :=
  match s.crcSpace with
  | none => none
  | some sp =>
    if s.crcEnd < s.crcStart ∨ s.size sp < s.crcEnd.toNat then none
    else some (s.readBytes sp s.crcStart.toNat (s.crcEnd.toNat - s.crcStart.toNat))

/-- `CRC_COMPUTE` (R158 of `40_crc_codec.md`). -/
def execCrcCompute (s : State) : StepOutcome :=
  accept s fun r =>
    match r.crcRange with
    | none => r.raiseSync .illegalEncoding
    | some b => State.completed { r with crcVal := crc16 b }

/-- `CRC_ENC_ASCII` (R159). -/
def execCrcEncAscii (s : State) : StepOutcome :=
  accept s fun r =>
    State.completed { r with crcTxt := (enc3 r.crcVal).c2 ++ (enc3 r.crcVal).c1 ++ (enc3 r.crcVal).c0 }

/-- `CRC_TXT` as three characters, `C0` in bits 7:0 (R49, R75). -/
def State.crcText (s : State) : CrcText where
  c0 := s.crcTxt.extractLsb' 0 8
  c1 := s.crcTxt.extractLsb' 8 8
  c2 := s.crcTxt.extractLsb' 16 8

/-- `CRC_DEC_ASCII` (R160). -/
def execCrcDecAscii (s : State) : StepOutcome :=
  accept s fun r =>
    match dec3 r.crcText with
    | some v => State.completed { r with crcVal := v }
    | none => r.raiseSync .crcDecode

/-- `verify` in the form `CRC_CTL.MODE` selects (R49, R162). -/
def State.crcVerified (s : State) (b : List Byte) : VerifyResult :=
  if s.crcCtl.getLsbD 2 then verifyBinary b else verifyAscii b

/-- `CRC_VERIFY` (R162): on a mismatch `CRC_VAL` still takes the computed CRC. -/
def execCrcVerify (s : State) : StepOutcome :=
  accept s fun r =>
    match r.crcRange with
    | none => r.raiseSync .illegalEncoding
    | some b =>
      match r.crcVerified b with
      | .ok v => State.completed { r with crcVal := v }
      | .crcMismatch v _ => State.raiseSync { r with crcVal := v } .crcMismatch
      | .crcDecode => r.raiseSync .crcDecode

/-- `CLEAR` (R295): also drops `r.ovr`, and leaves `r.done` 0. -/
def execClear (s : State) : StepOutcome :=
  accept s fun r => { r with ovr := false }

/-- A reserved operation code (R128, R293): accepted, and complete at once with `IllegalEncoding`. -/
def reservedOperation (s : State) : StepOutcome :=
  accept s fun r => r.raiseSync .illegalEncoding

/-- Reserved operation code `0x9` (R293). -/
def execReservedOp9 (s : State) : StepOutcome := reservedOperation s

/-- Reserved operation code `0xA` (R293). -/
def execReservedOpA (s : State) : StepOutcome := reservedOperation s

/-- Reserved operation code `0xB` (R293). -/
def execReservedOpB (s : State) : StepOutcome := reservedOperation s

/-- Reserved operation code `0xC` (R293). -/
def execReservedOpC (s : State) : StepOutcome := reservedOperation s

/-- Reserved operation code `0xD` (R293). -/
def execReservedOpD (s : State) : StepOutcome := reservedOperation s

/-- Reserved operation code `0xE` (R293). -/
def execReservedOpE (s : State) : StepOutcome := reservedOperation s

/-- Reserved operation code `0xF` (R293). -/
def execReservedOpF (s : State) : StepOutcome := reservedOperation s

end Sys2Proof.Machine
end

