-- ==== Sys2Proof/Machine/IdentifyCommands.lean ====
section
/-! DEFINITION. The meanings of the identify-measurement commands, `META` = 1 (R199 to R209 of `41_address_command.md`). Each is the acceptance
step of the `TRANSACT` that carries the command (R176, R294): its own construction checks in the order of R175, its wire bytes, its
response format. `CRC_EXPECT` acts when the response is validated, from `CMD0` (R111). -/

namespace Sys2Proof.Machine

/-- `IM` (R199): identify measurement. -/
def execIm (addr : Byte) (s : State) : StepOutcome :=
  issue s .ascii7E1 (withAddr addr (.ok [addr, Ascii.I, Ascii.M, Ascii.bang]))

/-- `IMn` (R200). -/
def execImn (addr : Byte) (n : BitVec 10) (s : State) : StepOutcome :=
  issue s .ascii7E1 (withAddr addr (withSetDigit n fun k => .ok ([addr, Ascii.I, Ascii.M] ++ k.text ++ [Ascii.bang])))

/-- `IMC` (R201). -/
def execImc (addr : Byte) (s : State) : StepOutcome :=
  issue s .ascii7E1 (withAddr addr (.ok [addr, Ascii.I, Ascii.M, Ascii.C, Ascii.bang]))

/-- `IMCn` (R202). -/
def execImcn (addr : Byte) (n : BitVec 10) (s : State) : StepOutcome :=
  issue s .ascii7E1 (withAddr addr (withSetDigit n fun k => .ok ([addr, Ascii.I, Ascii.M, Ascii.C] ++ k.text ++ [Ascii.bang])))

/-- `IV` (R203). -/
def execIv (addr : Byte) (s : State) : StepOutcome :=
  issue s .ascii7E1 (withAddr addr (.ok [addr, Ascii.I, Ascii.V, Ascii.bang]))

/-- `IC` (R204). -/
def execIc (addr : Byte) (s : State) : StepOutcome :=
  issue s .ascii7E1 (withAddr addr (.ok [addr, Ascii.I, Ascii.C, Ascii.bang]))

/-- `ICn` (R205). -/
def execIcn (addr : Byte) (n : BitVec 10) (s : State) : StepOutcome :=
  issue s .ascii7E1 (withAddr addr (withSetDigit n fun k => .ok ([addr, Ascii.I, Ascii.C] ++ k.text ++ [Ascii.bang])))

/-- `ICC` (R206). -/
def execIcc (addr : Byte) (s : State) : StepOutcome :=
  issue s .ascii7E1 (withAddr addr (.ok [addr, Ascii.I, Ascii.C, Ascii.C, Ascii.bang]))

/-- `ICCn` (R207). -/
def execIccn (addr : Byte) (n : BitVec 10) (s : State) : StepOutcome :=
  issue s .ascii7E1 (withAddr addr (withSetDigit n fun k => .ok ([addr, Ascii.I, Ascii.C, Ascii.C] ++ k.text ++ [Ascii.bang])))

/-- `IHA` (R208). -/
def execIha (addr : Byte) (s : State) : StepOutcome :=
  issue s .ascii7E1 (withAddr addr (.ok [addr, Ascii.I, Ascii.H, Ascii.A, Ascii.bang]))

/-- `IHB` (R209). -/
def execIhb (addr : Byte) (s : State) : StepOutcome :=
  issue s .ascii7E1 (withAddr addr (.ok [addr, Ascii.I, Ascii.H, Ascii.B, Ascii.bang]))

end Sys2Proof.Machine
end

