-- ==== Sys2Proof/Machine/ParameterCommands.lean ====
section
/-! DEFINITION. The meanings of the identify-measurement-parameter commands, `META` = 2 (R210 to R222 of `41_address_command.md`). Each is the acceptance
step of the `TRANSACT` that carries the command (R176, R294): its own construction checks in the order of R175, its wire bytes, its
response format. `CRC_EXPECT` acts when the response is validated, from `CMD0` (R111). -/

namespace Sys2Proof.Machine

/-- `IM_p` (R210): identify measurement parameter. -/
def execImP (addr : Byte) (p : BitVec 10) (_crc : Bool) (s : State) : StepOutcome :=
  issue s .ascii7E1
    (withAddr addr (withParam p fun q => .ok ([addr, Ascii.I, Ascii.M, Ascii.underscore] ++ q.text ++ [Ascii.bang])))

/-- `IMn_p` (R211). -/
def execImnP (addr : Byte) (n : BitVec 10) (p : BitVec 10) (_crc : Bool) (s : State) : StepOutcome :=
  issue s .ascii7E1
    (withAddr addr (withSetDigit n fun k => withParam p fun q =>
      .ok ([addr, Ascii.I, Ascii.M] ++ k.text ++ [Ascii.underscore] ++ q.text ++ [Ascii.bang])))

/-- `IMC_p` (R212). -/
def execImcP (addr : Byte) (p : BitVec 10) (_crc : Bool) (s : State) : StepOutcome :=
  issue s .ascii7E1
    (withAddr addr (withParam p fun q => .ok ([addr, Ascii.I, Ascii.M, Ascii.C, Ascii.underscore] ++ q.text ++ [Ascii.bang])))

/-- `IMCn_p` (R213). -/
def execImcnP (addr : Byte) (n : BitVec 10) (p : BitVec 10) (_crc : Bool) (s : State) : StepOutcome :=
  issue s .ascii7E1
    (withAddr addr (withSetDigit n fun k => withParam p fun q =>
      .ok ([addr, Ascii.I, Ascii.M, Ascii.C] ++ k.text ++ [Ascii.underscore] ++ q.text ++ [Ascii.bang])))

/-- `IV_p` (R214). -/
def execIvP (addr : Byte) (p : BitVec 10) (_crc : Bool) (s : State) : StepOutcome :=
  issue s .ascii7E1
    (withAddr addr (withParam p fun q => .ok ([addr, Ascii.I, Ascii.V, Ascii.underscore] ++ q.text ++ [Ascii.bang])))

/-- `IC_p` (R215). -/
def execIcP (addr : Byte) (p : BitVec 10) (_crc : Bool) (s : State) : StepOutcome :=
  issue s .ascii7E1
    (withAddr addr (withParam p fun q => .ok ([addr, Ascii.I, Ascii.C, Ascii.underscore] ++ q.text ++ [Ascii.bang])))

/-- `ICn_p` (R216). -/
def execIcnP (addr : Byte) (n : BitVec 10) (p : BitVec 10) (_crc : Bool) (s : State) : StepOutcome :=
  issue s .ascii7E1
    (withAddr addr (withSetDigit n fun k => withParam p fun q =>
      .ok ([addr, Ascii.I, Ascii.C] ++ k.text ++ [Ascii.underscore] ++ q.text ++ [Ascii.bang])))

/-- `ICC_p` (R217). -/
def execIccP (addr : Byte) (p : BitVec 10) (_crc : Bool) (s : State) : StepOutcome :=
  issue s .ascii7E1
    (withAddr addr (withParam p fun q => .ok ([addr, Ascii.I, Ascii.C, Ascii.C, Ascii.underscore] ++ q.text ++ [Ascii.bang])))

/-- `ICCn_p` (R218). -/
def execIccnP (addr : Byte) (n : BitVec 10) (p : BitVec 10) (_crc : Bool) (s : State) : StepOutcome :=
  issue s .ascii7E1
    (withAddr addr (withSetDigit n fun k => withParam p fun q =>
      .ok ([addr, Ascii.I, Ascii.C, Ascii.C] ++ k.text ++ [Ascii.underscore] ++ q.text ++ [Ascii.bang])))

/-- `IRn_p` (R219). -/
def execIrnP (addr : Byte) (n : BitVec 10) (p : BitVec 10) (_crc : Bool) (s : State) : StepOutcome :=
  issue s .ascii7E1
    (withAddr addr (withContDigit n fun k => withParam p fun q =>
      .ok ([addr, Ascii.I, Ascii.R] ++ k.text ++ [Ascii.underscore] ++ q.text ++ [Ascii.bang])))

/-- `IRCn_p` (R220). -/
def execIrcnP (addr : Byte) (n : BitVec 10) (p : BitVec 10) (_crc : Bool) (s : State) : StepOutcome :=
  issue s .ascii7E1
    (withAddr addr (withContDigit n fun k => withParam p fun q =>
      .ok ([addr, Ascii.I, Ascii.R, Ascii.C] ++ k.text ++ [Ascii.underscore] ++ q.text ++ [Ascii.bang])))

/-- `IHA_p` (R221). -/
def execIhaP (addr : Byte) (p : BitVec 10) (_crc : Bool) (s : State) : StepOutcome :=
  issue s .ascii7E1
    (withAddr addr (withParam p fun q => .ok ([addr, Ascii.I, Ascii.H, Ascii.A, Ascii.underscore] ++ q.text ++ [Ascii.bang])))

/-- `IHB_p` (R222). -/
def execIhbP (addr : Byte) (p : BitVec 10) (_crc : Bool) (s : State) : StepOutcome :=
  issue s .ascii7E1
    (withAddr addr (withParam p fun q => .ok ([addr, Ascii.I, Ascii.H, Ascii.B, Ascii.underscore] ++ q.text ++ [Ascii.bang])))

end Sys2Proof.Machine
end

