-- ==== Sys2Proof/Machine/Dispatch.lean ====
section
/-! DEFINITION. One arm per instruction, each a direct call of its meaning. -/

namespace Sys2Proof.Machine

/-- What an instruction does when it is written to `CTRL` (with, for a command, the descriptor that spells it): R293, R294. -/
def exec (i : Instr) (s : State) : Host.Outcome State Fault Refusal :=
  match i with
  | .ack addr => Sys2Proof.Machine.execAck addr s
  | .query => Sys2Proof.Machine.execQuery s
  | .ident addr => Sys2Proof.Machine.execIdent addr s
  | .chaddr addr newAddr => Sys2Proof.Machine.execChaddr addr newAddr s
  | .m addr => Sys2Proof.Machine.execM addr s
  | .mn addr n => Sys2Proof.Machine.execMn addr n s
  | .mc addr => Sys2Proof.Machine.execMc addr s
  | .mcn addr n => Sys2Proof.Machine.execMcn addr n s
  | .v addr => Sys2Proof.Machine.execV addr s
  | .c addr => Sys2Proof.Machine.execC addr s
  | .cn addr n => Sys2Proof.Machine.execCn addr n s
  | .cc addr => Sys2Proof.Machine.execCc addr s
  | .ccn addr n => Sys2Proof.Machine.execCcn addr n s
  | .rn addr n => Sys2Proof.Machine.execRn addr n s
  | .rcn addr n => Sys2Proof.Machine.execRcn addr n s
  | .dn addr n crc => Sys2Proof.Machine.execDn addr n crc s
  | .ha addr => Sys2Proof.Machine.execHa addr s
  | .hb addr => Sys2Proof.Machine.execHb addr s
  | .dbn addr n => Sys2Proof.Machine.execDbn addr n s
  | .im addr => Sys2Proof.Machine.execIm addr s
  | .imn addr n => Sys2Proof.Machine.execImn addr n s
  | .imc addr => Sys2Proof.Machine.execImc addr s
  | .imcn addr n => Sys2Proof.Machine.execImcn addr n s
  | .iv addr => Sys2Proof.Machine.execIv addr s
  | .ic addr => Sys2Proof.Machine.execIc addr s
  | .icn addr n => Sys2Proof.Machine.execIcn addr n s
  | .icc addr => Sys2Proof.Machine.execIcc addr s
  | .iccn addr n => Sys2Proof.Machine.execIccn addr n s
  | .iha addr => Sys2Proof.Machine.execIha addr s
  | .ihb addr => Sys2Proof.Machine.execIhb addr s
  | .imP addr p crc => Sys2Proof.Machine.execImP addr p crc s
  | .imnP addr n p crc => Sys2Proof.Machine.execImnP addr n p crc s
  | .imcP addr p crc => Sys2Proof.Machine.execImcP addr p crc s
  | .imcnP addr n p crc => Sys2Proof.Machine.execImcnP addr n p crc s
  | .ivP addr p crc => Sys2Proof.Machine.execIvP addr p crc s
  | .icP addr p crc => Sys2Proof.Machine.execIcP addr p crc s
  | .icnP addr n p crc => Sys2Proof.Machine.execIcnP addr n p crc s
  | .iccP addr p crc => Sys2Proof.Machine.execIccP addr p crc s
  | .iccnP addr n p crc => Sys2Proof.Machine.execIccnP addr n p crc s
  | .irnP addr n p crc => Sys2Proof.Machine.execIrnP addr n p crc s
  | .ircnP addr n p crc => Sys2Proof.Machine.execIrcnP addr n p crc s
  | .ihaP addr p crc => Sys2Proof.Machine.execIhaP addr p crc s
  | .ihbP addr p crc => Sys2Proof.Machine.execIhbP addr p crc s
  | .x addr body crc => Sys2Proof.Machine.execX addr body crc s
  | .nop => Sys2Proof.Machine.execNop s
  | .transact => Sys2Proof.Machine.execTransact s
  | .cmdFormat => Sys2Proof.Machine.execCmdFormat s
  | .addrCheck => Sys2Proof.Machine.execAddrCheck s
  | .crcCompute => Sys2Proof.Machine.execCrcCompute s
  | .crcEncAscii => Sys2Proof.Machine.execCrcEncAscii s
  | .crcDecAscii => Sys2Proof.Machine.execCrcDecAscii s
  | .crcVerify => Sys2Proof.Machine.execCrcVerify s
  | .clear => Sys2Proof.Machine.execClear s
  | .reservedOp9 => Sys2Proof.Machine.execReservedOp9 s
  | .reservedOpA => Sys2Proof.Machine.execReservedOpA s
  | .reservedOpB => Sys2Proof.Machine.execReservedOpB s
  | .reservedOpC => Sys2Proof.Machine.execReservedOpC s
  | .reservedOpD => Sys2Proof.Machine.execReservedOpD s
  | .reservedOpE => Sys2Proof.Machine.execReservedOpE s
  | .reservedOpF => Sys2Proof.Machine.execReservedOpF s

end Sys2Proof.Machine
end

