-- ==== Sys2Proof/Machine/Engine.lean ====
section
/-! DEFINITION. The engine phase: one handler per busy state (R290), with the receiver (R263 to R271) and the validator (R272 to
R280, R307, R308). -/

namespace Sys2Proof.Machine

/-! ## Guards -/

/-- `abort_due` (R313). -/
def State.abortDue (s : State) : Bool := s.abortEn && decide (s.abortAt ≤ s.cur.now)

/-- The sub-code of a 7-bit transport code: `0x80 | e` (R265, R331). -/
def transportSub (e : BitVec 7) : Byte := 0x80#8 ||| e.setWidth 8

/-- The sub-code of the engine's own parity check (R265). -/
def paritySub : Byte := 0x01

/-- The first two tests of every send-side handler: the overall deadline, then a transport failure; else `k`, where the state's own
timer is tested. DEDUCED (log 23): this is the order of the handlers themselves (R242, R243, R248), whose lists R342 (3) takes for its order; the timer
that R342 (3) and D31 name before a transport error is read as a deadline that fails an attempt, not as the end of break or marking. -/
def State.sendGuard (s : State) (k : StepOutcome) : StepOutcome :=
  if s.abortDue then .next (s.failFinal .timeout)
  else
    match s.cur.txErr with
    | some e => .next (s.attemptFail .transport (transportSub e))
    | none => k

/-! ## The send side (`42_break_transmit.md`) -/

/-- State `BreakSent` (R242). -/
def State.breakSentPhase (s : State) : StepOutcome :=
  s.sendGuard <|
    if s.params.tBreakMin ≤ s.elapsed s.t0 then .next { s with breakO := false, t0 := s.cur.now, state := .markingWait }
    else .next s

/-- State `MarkingWait` (R243). -/
def State.markingWaitPhase (s : State) : StepOutcome :=
  s.sendGuard <|
    if s.params.tMark ≤ s.elapsed s.t0 then .next { s with txPtr := 0, state := .commandSent }
    else .next s

/-- `enter_awaiting` (R250): the framing of the response, and the response deadline from this instant (R262). -/
def State.enterAwaiting (s : State) : State :=
  { s with
    framing := respFmt s.descriptor
    rxLen := 0
    rxNeed := 0
    tDead := s.cur.now + BitVec.ofNat 64 (tResp s.params s.tOvr s.descriptor)
    tLast := s.cur.now
    state := .awaitingResponse }

/-- The line byte of the next command character handed to the transport (R246 to R248). -/
def State.sendNext (s : State) : State :=
  { s with
    out := { s.out with tx := some (lineByte .ascii7E1 (s.read .tx s.txPtr.toNat)) }
    txPtr := s.txPtr + 1 }

/-- State `CommandSent` (R248). -/
def State.commandSentPhase (s : State) : StepOutcome :=
  s.sendGuard <|
    if s.txPtr < s.txLen then
      if s.cur.txReady then
        if s.size .tx ≤ s.txPtr.toNat then .fault (.engineReadOutside .tx s.txPtr.toNat) else .next s.sendNext
      else .next s
    else if s.cur.txDone then .next s.enterAwaiting
    else .next s

/-! ## The receiver (`43_receive_validate.md`) -/

/-- The packet-size field of a binary frame (R116, R74 (c)). -/
def State.packetSize (s : State) : BitVec 16 := decb (s.read .rx 1) (s.read .rx 2)

/-- End of an ASCII frame (R267), `c` the byte just stored. -/
def State.endAscii (s : State) (c : Byte) : State :=
  if c = Ascii.lf ∨ s.rxLen = s.rxCap then { s with state := .validating } else s

/-- The total length of a binary frame is known when its third byte is stored (R268, R269). -/
def State.noteSize (s : State) : State :=
  if s.rxLen = 3 then { s with rxNeed := 6 + s.packetSize.setWidth 17 } else s

/-- End of a binary frame (R268), after its third byte has given `r.rx_need`. -/
def State.endBinary (s : State) : State :=
  let r := s.noteSize
  if r.rxLen = 3 ∧ r.rxCap.toNat < r.rxNeed.toNat then r.attemptFail .capacity 0
  else if r.rxNeed ≠ 0 ∧ r.rxLen.toNat = r.rxNeed.toNat then { r with framing := .ascii7E1, state := .validating }
  else if r.rxLen = r.rxCap then r.attemptFail .capacity 0
  else r

/-- A received character stored at `r.rx_len` (R266). -/
def State.keepByte (s : State) (c : Byte) : State :=
  { s.write .rx s.rxLen.toNat c with rxLen := s.rxLen + 1, tLast := s.cur.now }

/-- Storing a received character (R266), then R267 or R268 by the framing. -/
def State.storeByte (s : State) (c : Byte) : State :=
  match s.framing with
  | .ascii7E1 => (s.keepByte c).endAscii c
  | .binary8N1 => (s.keepByte c).endBinary

/-- Rows 4 to 7 of R270: what a receive event does when no deadline has passed (R265, R266). -/
def State.receive (s : State) : StepOutcome :=
  match s.cur.rx with
  | .nothing => .next s
  | .err e => .next (s.attemptFail .transport (transportSub e))
  | .byte lb =>
    match charOf s.framing lb with
    | none => .next (s.attemptFail .transport paritySub)
    | some c =>
      if s.size .rx ≤ s.rxLen.toNat then .fault (.engineWriteOutside .rx s.rxLen.toNat) else .next (s.storeByte c)

/-- The inter-byte timeout (R264): enforced when the parameter is not 0, after the first byte. -/
def State.interbyteDue (s : State) : Bool :=
  decide (s.params.tInterbyte ≠ 0) && decide (s.rxLen ≠ 0) && decide (s.params.tInterbyte ≤ s.elapsed s.tLast)

/-- State `AwaitingResponse` (R270, in its order). -/
def State.awaitingPhase (s : State) : StepOutcome :=
  if s.abortDue then .next (s.failFinal .timeout)
  else if s.tDead ≤ s.cur.now then .next (s.attemptFail .timeout 0)
  else if s.interbyteDue then .next (s.attemptFail .timeout 0)
  else s.receive

/-! ## The validator -/

/-- The CRC checks of an ASCII frame of `n` bytes that ends in CR LF (R276 to R278); `none` when they pass. -/
def State.checkAsciiCrc (s : State) (n : Nat) : Option ErrKind :=
  if n < 6 then some .crcDecode
  else
    match dec3 ⟨s.read .rx (n - 5), s.read .rx (n - 4), s.read .rx (n - 3)⟩ with
    | none => some .crcDecode
    | some v => if crc16 (s.readBytes .rx 0 (n - 5)) = v then none else some .crcMismatch

/-- The CRC check of a binary frame of `n` bytes (R279); `none` when it passes. -/
def State.checkBinaryCrc (s : State) (n : Nat) : Option ErrKind :=
  if crc16 (s.readBytes .rx 0 (n - 2)) = decb (s.read .rx (n - 2)) (s.read .rx (n - 1)) then none else some .crcMismatch

/-- The first check of R272 that fails for the frame `RXBUF[0 .. n)`, in its order: address (R274), terminator (R275), CRC. -/
def State.checkFrame (s : State) (n : Nat) : Option ErrKind :=
  if addrOk s.descriptor (s.read .rx 0) = false then some .addressMismatch
  else
    match s.fmt with
    | .ascii7E1 =>
      if n < 3 ∨ s.read .rx (n - 2) ≠ Ascii.cr ∨ s.read .rx (n - 1) ≠ Ascii.lf then some .terminator
      else if crcMode s.descriptor = .ascii then s.checkAsciiCrc n
      else none
    | .binary8N1 => s.checkBinaryCrc n

/-- The end of the payload of a frame of `n` bytes (R280). -/
def payloadEnd (m : CrcMode) (n : Nat) : Nat :=
  match m with
  | .ascii => n - 2 - 3
  | .none => n - 2
  | .binary => n - 2

/-- The payload boundary (R280) and the entry to `Success` (R308). -/
def State.enterSuccess (s : State) : State :=
  { s with
    payStart := 1
    payEnd := BitVec.ofNat 16 (payloadEnd (crcMode s.descriptor) s.rxLen.toNat)
    crcPresent := decide (crcMode s.descriptor ≠ .none)
    lastValid := true
    lastAddr := s.read .rx 0
    lastT := s.cur.now
    state := .success
    done := true }

/-- State `Validating` (R272, R307). -/
def State.validatingPhase (s : State) : StepOutcome :=
  if s.size .rx < s.rxLen.toNat then .fault (.engineReadOutside .rx (s.rxLen.toNat - 1))
  else
    match s.checkFrame s.rxLen.toNat with
    | some e => .next (s.attemptFail e 0)
    | none => .next s.enterSuccess

/-! ## Retry -/

/-- `retryable(E)` (R309). -/
def State.retryable (s : State) (e : ErrKind) : Bool :=
  match e with
  | .transport => true
  | .timeout => true
  | .addressMismatch => s.retryValidation
  | .crcMismatch => s.retryValidation
  | .terminator => s.retryValidation
  | .crcDecode => s.retryValidation
  | .noError => false
  | .invalidAddress => false
  | .indexOutOfRange => false
  | .capacity => false
  | .illegalEncoding => false

/-- State `Retry` (R309, R310, R311). -/
def State.retryPhase (s : State) : StepOutcome :=
  if s.retryable s.err = true ∧ s.retryCnt < s.retryMax then
    .next (State.startAttempt { s with retryCnt := s.retryCnt + 1 } true)
  else .next s.enterFailed

/-- The engine phase of a step that began in state `st0` (R290): a quiescent state does nothing. -/
def State.enginePhase (s : State) (st0 : FsmState) : StepOutcome :=
  match st0 with
  | .idle => .next s
  | .breakSent => s.breakSentPhase
  | .markingWait => s.markingWaitPhase
  | .commandSent => s.commandSentPhase
  | .awaitingResponse => s.awaitingPhase
  | .validating => s.validatingPhase
  | .success => .next s
  | .retry => s.retryPhase
  | .failed => .next s

end Sys2Proof.Machine
end

