-- ==== Sys2Proof/Machine/HostPort.lean ====
section
/-! DEFINITION. The host port apart from the operations: register reads and writes (R40 to R51 of `10_state.md`), buffer reads and
writes and the busy refusal (R292 of `44_transaction_fsm.md`), and the byte offsets of a host bus (R76 of `20_memory.md`). -/

namespace Sys2Proof.Machine

/-- Register `n` as the host reads it (the table of R40). `CTRL` is write-only and reads 0; registers 28 and above read 0. -/
def State.readCsr (s : State) (n : Nat) : Word :=
  match n with
  | 1 => s.statusWord
  | 2 => s.resultWord
  | 3 => s.cfg
  | 4 => s.cmd0
  | 5 => s.cmd1
  | 6 => s.tOvr
  | 7 => s.txCap.setWidth 32
  | 8 => s.rxCap.setWidth 32
  | 9 => s.abortLo
  | 10 => s.abortHi
  | 11 => s.txLen.setWidth 32
  | 12 => s.rxLen.setWidth 32
  | 13 => s.payStart.setWidth 32
  | 14 => s.payEnd.setWidth 32
  | 15 => s.retryCnt.setWidth 32
  | 16 => s.crcVal.setWidth 32
  | 17 => s.crcTxt.setWidth 32
  | 18 => s.crcStart.setWidth 32
  | 19 => s.crcEnd.setWidth 32
  | 20 => s.crcCtl.setWidth 32
  | 21 => s.lastWord
  | 22 => s.lastT.extractLsb' 0 32
  | 23 => s.lastT.extractLsb' 32 32
  | 24 => s.cur.now.extractLsb' 0 32
  | 25 => s.cur.now.extractLsb' 32 32
  | 26 => s.tDead.extractLsb' 0 32
  | 27 => s.tDead.extractLsb' 32 32
  | _ => 0

/-- The registers of class `RW` (the table of R40). -/
def isWritableCsr (n : Nat) : Bool :=
  (decide (3 ≤ n) && decide (n ≤ 10)) || (decide (16 ≤ n) && decide (n ≤ 20))

/-- The defined bits of `CFG` (R44), `CMD0` (R45) and `CMD1` (R46). -/
def cfgMask : Word := 0x00001FFF
/-- See `cfgMask`. -/
def cmd0Mask : Word := 0x1FFFFFFF
/-- See `cfgMask`. -/
def cmd1Mask : Word := 0xFFFF03FF

/-- An accepted write of `v` to register `n` (R292): the defined bits take `v`'s bits; a register that is read-only or reserved is
unchanged (R40). -/
def State.writeCsr (s : State) (n : Nat) (v : Word) : State :=
  match n with
  | 3 => { s with cfg := v &&& cfgMask }
  | 4 => { s with cmd0 := v &&& cmd0Mask }
  | 5 => { s with cmd1 := v &&& cmd1Mask }
  | 6 => { s with tOvr := v }
  | 7 => { s with txCap := v.setWidth 16 }
  | 8 => { s with rxCap := v.setWidth 16 }
  | 9 => { s with abortLo := v }
  | 10 => { s with abortHi := v }
  | 16 => { s with crcVal := v.setWidth 16 }
  | 17 => { s with crcTxt := v.setWidth 24 }
  | 18 => { s with crcStart := v.setWidth 16 }
  | 19 => { s with crcEnd := v.setWidth 16 }
  | 20 => { s with crcCtl := v.setWidth 3 }
  | _ => s

/-- The result of a host read, in the output record of the step (R58, R59). -/
def State.answer (s : State) (v : Word) : State := { s with out := { s.out with rdata := v } }

/-- A refused access: nothing but `r.ovr <- 1` (R32, R292). -/
def State.refuse (s : State) : State := { s with ovr := true }

/-- A host write to a register other than `CTRL` (R292). -/
def State.hostWriteCsr (s : State) (n : Nat) (v : Word) : State :=
  if isWritableCsr n then (if s.busy then s.refuse else s.writeCsr n v) else s

/-- A host read of a buffer byte (R292); at or beyond the buffer's size it reads 0 in any state, with no flag (R79; log 7). -/
def State.hostReadBuf (s : State) (sp : Space) (i : Nat) : State :=
  if s.size sp ≤ i then s.answer 0
  else if s.busy then s.refuse.answer 0
  else s.answer ((s.read sp i).setWidth 32)

/-- A host write of a buffer byte (R292); at or beyond the buffer's size it writes nothing in any state, with no flag (R79; log 7). -/
def State.hostWriteBuf (s : State) (sp : Space) (i : Nat) (v : Byte) : State :=
  if s.size sp ≤ i then s else if s.busy then s.refuse else s.write sp i v

/-! ## Byte offsets (R76, R77; log 21) -/

/-- The buffer access an offset of a window names (R76). -/
def windowIndex (off : Nat) : BitVec 16 := BitVec.ofNat 16 (off % 0x10000)

/-- The access a host bus read at a byte offset makes (R76). An offset of the register space that is no multiple of 4 reads 0 (U10). -/
def busRead (off : Nat) : HostAccess :=
  if off < 0x10000 then .rdCsr (if off % 4 = 0 then off / 4 else 0x4000)
  else if off < 0x20000 then .rdBuf .tx (windowIndex off)
  else if off < 0x30000 then .rdBuf .rx (windowIndex off)
  else if off < 0x40000 then .rdBuf .xb (windowIndex off)
  else .rdCsr 0x4000

/-- The access a host bus write at a byte offset makes (R76): 32 bits in the register space, the low byte in a buffer window. An
offset of the register space that is no multiple of 4 writes nothing (U10). -/
def busWrite (off : Nat) (v : Word) : HostAccess :=
  if off < 0x10000 then .wrCsr (if off % 4 = 0 then off / 4 else 0x4000) v
  else if off < 0x20000 then .wrBuf .tx (windowIndex off) (v.setWidth 8)
  else if off < 0x30000 then .wrBuf .rx (windowIndex off) (v.setWidth 8)
  else if off < 0x40000 then .wrBuf .xb (windowIndex off) (v.setWidth 8)
  else .wrCsr 0x4000 v

end Sys2Proof.Machine
end

