-- ==== Sys2Proof/Machine/Fetch.lean ====
section
/-! DEFINITION. Where an instruction comes from: the input record a step takes (R54), the instruction a write to `CTRL` selects
(R41, R125, R293), the outputs of a step (R59, R290), and the reset of R61. -/

namespace Sys2Proof.Machine

/-- The instant `t`, or `lo` where `t` is earlier: the environment's timer is monotone (R55). -/
def notBefore (lo t : Instant) : Instant := if t < lo then lo else t

/-- The environment's free input of step `k`, its timer no earlier than the last sample (R55, R60; log 3). -/
def freeInputAfter (lo : Instant) (k : Nat) : Input :=
  { Config.freeInput k with now := notBefore lo (Config.freeInput k).now }

/-- The outputs that hold before anything of the step has set them: `out.tx = none`, `out.rdata = 0` (R59, R290 step 4). -/
def State.quietOutputs (s : State) : State := { s with out := { s.out with tx := none, rdata := 0 } }

/-- The step takes its input record: the head of `inputs`, or the free input where none waits (log 2, log 3). -/
def State.latch (s : State) : State :=
  match s.inputs with
  | i :: rest => State.quietOutputs { s with cur := i, inputs := rest }
  | [] => State.quietOutputs { s with cur := freeInputAfter s.cur.now s.envIdx, envIdx := s.envIdx + 1 }

/-- The command the descriptor registers and `XBUF` spell, where they spell one (R120, R126). -/
def State.carried (s : State) : Option Instr :=
  match decodeCommand s.descriptor s.xbody with
  | .ok i => some i
  | .error _ => none

/-- The instruction a write of `v` to `CTRL` selects: the operation of bits 3:0, and for `TRANSACT` the command its descriptor spells
(R176, R293, R294; log 11). A descriptor with a reserved code spells none: `TRANSACT` then reports it (R128). -/
def State.fetch (s : State) (v : Word) : Instr :=
  match decodeOp v with
  | .transact =>
    match s.carried with
    | some i => i
    | none => .transact
  | i => i

/-- The outputs of a step, from the state after both phases (R290 step 4, R340). -/
def State.drive (s : State) : State :=
  { s with out := { s.out with breakO := s.breakO, framingO := s.framing, irqO := s.irq } }

/-- A step with `rst_i` asserted (R61, R370): every register to its reset value, the buffers kept (R62); the input list and the
parameters are no registers of the block. -/
def State.resetStep (s : State) : State :=
  { State.resetWith s.params with
    txbuf := s.txbuf
    rxbuf := s.rxbuf
    xbuf := s.xbuf
    inputs := s.inputs
    envIdx := s.envIdx
    cur := s.cur }

/-! ## Placing an instruction (log 4) -/

/-- A host access queued for the very next step, at the instant of the last one. -/
def State.queueHost (s : State) (h : HostAccess) : State :=
  { s with inputs := { Input.quiet s.cur.now with host := h } :: s.inputs }

/-- The descriptor registers and `XBUF` set to spell a command (R120, R224). -/
def State.placeDescriptor (s : State) (d : Descriptor) (body : List Byte) : State :=
  State.writeBytes { s with cmd0 := d.cmd0, cmd1 := d.cmd1 } .xb 0 (body.take s.params.xbufSize)

/-- The instruction of a row's word placed where the next step fetches: a host operation as the word written to `CTRL`; a command as
its descriptor and a `TRANSACT` written to `CTRL`. -/
def State.placeTableWord (s : State) (nbits w : Nat) : State :=
  match decodeTableWord nbits w with
  | none => s.queueHost (.wrCsr 0 (BitVec.ofNat 32 w))
  | some i =>
    match encodeCommand i with
    | some d => (s.placeDescriptor d (extendedBody i)).queueHost (.wrCsr 0 1)
    | none => s.queueHost (.wrCsr 0 (BitVec.ofNat 32 (w % 2 ^ nbits)))

end Sys2Proof.Machine
end

