-- ==== Sys2Proof/Machine/Phases.lean ====
section
/-! DEFINITION. The phases of a step (R290 of `44_transaction_fsm.md`) and the placing of an instruction (log 4). -/

namespace Sys2Proof.Machine

/-- The host phase (R292): a write to `CTRL` runs the instruction it selects; other accesses are register and buffer accesses. -/
def State.hostPhase (s : State) : StepOutcome :=
  match s.cur.host with
  | .idle => .next s
  | .rdCsr n => .next (s.answer (s.readCsr n))
  | .wrCsr n v => if n = 0 then exec (s.fetch v) s else .next (s.hostWriteCsr n v)
  | .rdBuf sp i => .next (s.hostReadBuf sp i.toNat)
  | .wrBuf sp i v => .next (s.hostWriteBuf sp i.toNat v)

/-- The two phases of a step that is no reset step, and its outputs (R290 steps 1 to 4): the engine phase is that of the state the
previous step left. -/
def State.phases (s : State) : StepOutcome :=
  andThen s.hostPhase fun t => andThen (t.enginePhase s.state) fun u => .next u.drive

/-- A step whose input record has been taken (R290): reset overrides everything else (R342). -/
def State.stepLatched (s : State) : StepOutcome :=
  if s.cur.rst then .next s.resetStep else s.phases

end Sys2Proof.Machine
end

