-- ==== Sys2Proof/Machine/Step.lean ====
section
/-! DEFINITION. One step of the machine (R290 of `44_transaction_fsm.md`). -/

namespace Sys2Proof.Machine

/-- One step (R290): take the input record, then reset, or host phase, engine phase and outputs. -/
def step (s : State) : Host.Outcome State Fault Refusal := s.latch.stepLatched

/-- `s` with the instruction of a row's word placed for the very next step (log 4). -/
def State.withFetchWord (s : State) (nbits w : Nat) : State := s.placeTableWord nbits w

end Sys2Proof.Machine
end

