-- ==== Sys2Proof/Machine/Environment.lean ====
section
/-! DEFINITION. What the rules assume of the environment (R60 of `10_state.md`): premises over a run, proved of nothing and read by no
step (log 22). (a) the timer, (b) to (d) the transport, (e) the host's duties R376 to R383 of `70_reset_and_hazards.md`; the spacing of
steps (R291). Nothing here limits what is received. -/

namespace Sys2Proof.Machine

/-- Who sent a received byte (R248, R379): no rule of the block can tell. -/
inductive RxSource where
  | sensor
  | echo
  | noise
deriving DecidableEq, Repr

/-- A time in which the line is not marking: the part of a character, or of a break, that lies between two steps. -/
structure LineSpan where
  start : Instant
  stop  : Instant
  /-- with it a character frame that the transport has accepted leaves -/
  sends : Bool
deriving DecidableEq, Repr

/-- What the line does from a step to the next one. -/
inductive LineUse where
  /-- break, throughout -/
  | breaking
  /-- marking, but in these spans, in order -/
  | carrying (spans : List LineSpan)
deriving DecidableEq, Repr

/-- One step of a run, with what the line does from then to the next step and what the host means and learns by it: none of that is the
block's state. The step's record is `after.cur`, its outputs are `after.out`. -/
structure EnvStep where
  /-- the state the step began in -/
  before    : State
  /-- the state it left -/
  after     : State
  /-- the character frames whose last bit leaves the transport before the next step, with their framing, oldest first -/
  sent      : List (Framing × Byte)
  /-- the line until the next step -/
  line      : LineUse
  /-- where the byte of `in.rx` came from, if there is one -/
  source    : RxSource
  /-- the `T_OVR` the host means for the transaction the step starts, if it starts one (R47, R382) -/
  meant     : Word
  /-- the instant at which the data are ready that the response validated in the step announces (R383); the meaning of a payload is
  out of scope (R5 (3)), and a host that polls announces the present -/
  announced : Instant
deriving DecidableEq, Repr

/-- The instant of the step. -/
def EnvStep.now (e : EnvStep) : Instant := e.after.cur.now

/-- The host access the block serves in the step: none in a reset step (R370). -/
def EnvStep.host (e : EnvStep) : HostAccess := if e.after.cur.rst then .idle else e.after.cur.host

/-! ## The timer -/

/-- (a) The instants of the coming steps never fall below `lo` or below an earlier one (R55, R60 (a)). -/
def timesRise (lo : Instant) (is : List Input) : Bool :=
  match is with
  | [] => true
  | i :: rest => decide (lo ≤ i.now) && timesRise i.now rest

/-- A step taken while busy comes at most `STEP_MAX` ticks after the one before it (R291). -/
def timesSpaced (run : List EnvStep) : Bool :=
  run.all fun e => !e.before.busy || decide (e.now.toNat ≤ e.before.cur.now.toNat + e.before.params.stepMax)

/-- The ticks one character lasts on the line, rounded down. R8 gives the quotient `10 * TICK_HZ / BAUD` (8 333.3 at the defaults) and
does not say how it becomes whole ticks. DESIGN CHOICE (log 24): truncated; no rule depends on it (R386). -/
def Params.charTicks (p : Params) : Nat := 10 * p.tickHz / Config.baud

/-! ## The transport

`queue` is what the transport has accepted and not yet sent when a run begins (R38 (a)). -/

/-- The line byte the transport accepts in the step, in the framing of that step (R59, R247). -/
def EnvStep.accepted (e : EnvStep) : List (Framing × Byte) :=
  match e.after.out.tx with
  | some lb => [(e.after.out.framingO, lb)]
  | none => []

/-- What is accepted and not yet sent at the next step. -/
def EnvStep.unsent (queue : List (Framing × Byte)) (e : EnvStep) : List (Framing × Byte) :=
  (queue ++ e.accepted).drop e.sent.length

/-- (b) The transport sends accepted line bytes in order, one character frame each, in the framing in which it accepted them. -/
def sendsInOrder (queue : List (Framing × Byte)) (run : List EnvStep) : Bool :=
  match run with
  | [] => true
  | e :: rest => e.sent.isPrefixOf (queue ++ e.accepted) && sendsInOrder (e.unsent queue) rest

/-- (c) `in.tx_done` is not true while an accepted byte is still unsent (R56). -/
def doneWhenSent (queue : List (Framing × Byte)) (run : List EnvStep) : Bool :=
  match run with
  | [] => true
  | e :: rest => (!e.after.cur.txDone || queue.isEmpty) && doneWhenSent (e.unsent queue) rest

/-- (d) While `out.break_o` is true the transport holds the line in break and sends nothing else. -/
def holdsBreak (run : List EnvStep) : Bool :=
  run.all fun e => !e.after.out.breakO || (decide (e.line = .breaking) && e.sent.isEmpty)

/-- The spans follow one another between two instants. -/
def spansBetween (lo hi : Instant) (spans : List LineSpan) : Bool :=
  match spans with
  | [] => decide (lo ≤ hi)
  | c :: rest => decide (lo ≤ c.start) && decide (c.start ≤ c.stop) && spansBetween c.stop hi rest

/-- The character frames that leave with the line of the step are those the transport sends then. -/
def EnvStep.lineSends (e : EnvStep) : Bool :=
  match e.line with
  | .breaking => e.sent.isEmpty
  | .carrying spans => decide ((spans.filter LineSpan.sends).length = e.sent.length)

/-- The spans of a step's line lie between the step and the next one, and carry what the transport sends. -/
def linesFit (run : List EnvStep) : Bool :=
  match run with
  | [] => true
  | e :: rest =>
    e.lineSends &&
      (match rest, e.line with
        | d :: _, .carrying spans => spansBetween e.now d.now spans
        | _, _ => true) && linesFit rest

/-! ## The host's duties -/

/-- R376: the accesses reach the block in the order in which the host's program makes them. That operands come before `CTRL` in the
program is `handsOff` for what `CTRL` starts. -/
def inProgramOrder (program : List HostAccess) (run : List EnvStep) : Bool :=
  ((run.map EnvStep.host).filter fun h => decide (h ≠ .idle)).isPrefixOf program

/-- R377: while `BUSY` the host makes no access but register reads. -/
def EnvStep.handsOff (e : EnvStep) : Bool :=
  match e.host with
  | .idle | .rdCsr _ => true
  | .wrCsr _ _ | .rdBuf _ _ | .wrBuf _ _ _ => !e.before.busy

/-- The step starts an operation: a `CTRL` write in a quiescent state (R41, R293). -/
def EnvStep.operates (e : EnvStep) : Bool :=
  match e.host with
  | .wrCsr n _ => decide (n = 0) && !e.before.busy
  | .idle | .rdCsr _ | .rdBuf _ _ | .wrBuf _ _ _ => false

/-- R378: the host reads the result of an operation before it starts the next. DESIGN CHOICE (log 22): the read of `RESULT` stands for
it; `unread` says that a result waits when the run begins. -/
def readsResults (unread : Bool) (run : List EnvStep) : Bool :=
  match run with
  | [] => true
  | e :: rest =>
    !(unread && e.operates) &&
      readsResults
        (if e.after.done && (e.operates || !e.before.done) then true
         else if e.host = .rdCsr 2 then false
         else unread && e.after.done) rest

/-- R379: no response byte arrives while the engine is still in `CommandSent`, and no echo of its own command once it listens. -/
def EnvStep.listensInTime (e : EnvStep) : Bool :=
  e.after.cur.rst ||
    match e.source with
    | .sensor => decide (e.after.cur.rx = .nothing) || decide (e.before.state ≠ .commandSent)
    | .echo => decide (e.after.cur.rx = .nothing) || decide (e.before.state ≠ .awaitingResponse)
    | .noise => true

/-- R380: a host that cannot trust its transport to go on keeps the overall deadline enabled while a command is sent. -/
def EnvStep.stallGuarded (trusted : Bool) (e : EnvStep) : Bool :=
  trusted || e.before.abortEn || decide (e.before.state ≠ .commandSent)

/-- R381: a break is not held longer than `limit` ticks, an upper limit no source states (N2). -/
def EnvStep.breaksWithin (limit : Nat) (e : EnvStep) : Bool :=
  e.after.cur.rst || decide (e.before.state ≠ .breakSent) || decide (e.now.toNat ≤ e.before.t0.toNat + limit)

/-- The bytes still to be sent when the step is over before the whole command is: those the transport holds and those it has not been
handed. None where the step leaves no command on its way: before its break ends, once it is sent, after an abort, a failure or a reset. -/
def EnvStep.ahead (queue : List (Framing × Byte)) (e : EnvStep) : Nat :=
  match e.after.state with
  | .markingWait => (queue ++ e.accepted).length + e.after.txLen.toNat
  | .commandSent => (queue ++ e.accepted).length + (e.after.txLen.toNat - e.after.txPtr.toNat)
  | .idle | .breakSent | .awaitingResponse | .validating | .success | .retry | .failed => 0

/-- A line that is marking since `since`, with `ahead` bytes to be sent, is marking for at most `limit` ticks on end before each of the
spans, as long as a byte remains to be sent. -/
def gapsWithin (limit ahead : Nat) (since : Instant) (spans : List LineSpan) : Bool :=
  match spans with
  | [] => true
  | c :: rest =>
    (decide (ahead = 0) || decide (c.start.toNat ≤ since.toNat + limit)) &&
      gapsWithin limit (if c.sends then ahead - 1 else ahead) c.stop rest

/-- The instant since which a line that is marking since `since` is marking after the spans. -/
def markingSince (since : Instant) (spans : List LineSpan) : Instant :=
  match spans with
  | [] => since
  | c :: rest => markingSince c.stop rest

/-- R381: until the whole command is sent the line is never marking for longer than `limit` ticks on end, after which the sensors sleep
(a limit no source states, N2): neither because the engine is stepped rarely nor because the transport is slow to start sending. `since`
is the instant since which the line is marking when the run goes on, if it is. DESIGN CHOICE (log 22): the limit holds for every stretch
of marking up to the last byte of the command, the gaps between its characters too (N7), each measured from the end of what was on the
line before it, whatever steps lie between; a stretch that is still open at a step is measured up to that step, unless the step drops the
command. The line after a step is judged by what the step leaves to be sent (`EnvStep.ahead`). -/
def marksWithin (limit : Nat) (queue : List (Framing × Byte)) (since : Option Instant) (run : List EnvStep) : Bool :=
  match run with
  | [] => true
  | e :: rest =>
    let start := since.getD e.now
    (decide (e.ahead queue = 0) || decide (e.now.toNat ≤ start.toNat + limit)) &&
      match e.line with
      | .breaking => marksWithin limit (e.unsent queue) none rest
      | .carrying spans =>
        gapsWithin limit (e.ahead queue) start spans && marksWithin limit (e.unsent queue) (some (markingSince start spans)) rest

/-- The command of the `TRANSACT` the step starts, if it starts one (R294). -/
def EnvStep.transacts (e : EnvStep) : Option Descriptor :=
  match e.host with
  | .wrCsr n v => if n = 0 ∧ e.before.busy = false ∧ decodeOp v = .transact then some e.before.descriptor else none
  | .idle | .rdCsr _ | .rdBuf _ _ | .wrBuf _ _ _ => none

/-- The step writes register `n` (while busy the write is refused, R292; in a reset step it is not served, R370). -/
def EnvStep.writes (n : Nat) (e : EnvStep) : Bool :=
  match e.host with
  | .wrCsr m _ => decide (m = n) && !e.before.busy
  | .idle | .rdCsr _ | .rdBuf _ _ | .wrBuf _ _ _ => false

/-- R382: a transaction starts with the overall deadline disabled, or with both halves of `ABORT_AT` written since the last reset and the
transaction before it, and not in the past; and with the `T_OVR` meant for it, which stays in force until rewritten. `lo` and `hi` say
which half is written. -/
def freshDeadlines (lo hi : Bool) (run : List EnvStep) : Bool :=
  match run with
  | [] => true
  | e :: rest =>
    match e.transacts with
    | some _ =>
      (!e.before.abortEn || (lo && hi && decide (e.now < e.before.abortAt))) && decide (e.before.tOvr = e.meant) &&
        freshDeadlines false false rest
    | none => freshDeadlines (!e.after.cur.rst && (lo || e.writes 9)) (!e.after.cur.rst && (hi || e.writes 10)) rest

/-- What a host remembers for R383: the measurements started, by address, with whether a CRC was requested; the addresses their
sensors have left; the instants at which announced data are ready. -/
structure HostMemory where
  started : List (Byte × Bool)
  left    : List Byte
  ready   : List (Byte × Instant)
deriving DecidableEq, Repr

/-- The value listed first for `a`. -/
def known {α : Type} (l : List (Byte × α)) (a : Byte) : Option α :=
  match l with
  | [] => none
  | (b, v) :: rest => if b = a then some v else known rest a

/-- Nothing listed for `a` any more. -/
def forget {α : Type} (a : Byte) (l : List (Byte × α)) : List (Byte × α) := l.filter fun c => decide (c.1 ≠ a)

/-- What is listed for `a` is listed for `b` instead; nothing changes when they are the same. -/
def moveTo {α : Type} (a b : Byte) (l : List (Byte × α)) : List (Byte × α) :=
  if a = b then l else (forget b l).map fun c => if c.1 = a then (b, c.2) else c

/-- The command of descriptor `d` starts a measurement, and whether it requests a CRC: `MC`, `CC` and `HA` do (R111). -/
def startsWithCrc (d : Descriptor) : Option Bool :=
  match Kind.ofCode d.kind with
  | none => none
  | some k => if d.metaForm = 0 ∧ startsMeasurement k = true then some (decide (k = .mc ∨ k = .cc ∨ k = .ha)) else none

/-- After the command of descriptor `d` has succeeded: a start is noted with the instant its response announced; after a `CHADDR` the
sensor, and what is known of it, is at its new address, which may be its old one (R183). -/
def HostMemory.succeeded (m : HostMemory) (d : Descriptor) (announced : Instant) : HostMemory :=
  match startsWithCrc d with
  | some crc => { m with started := (d.addr, crc) :: m.started, ready := (d.addr, announced) :: m.ready }
  | none =>
    if d.kind = Kind.chaddr.code then
      { started := moveTo d.addr d.newAddr m.started
        left := (d.addr :: m.left).filter fun a => decide (a ≠ d.newAddr)
        ready := moveTo d.addr d.newAddr m.ready }
    else m

/-- After the command of descriptor `d` has failed the sensors' state is unknown (R383): at which addresses they answer, and, where the
command would have started a measurement or moved a sensor, which measurement its address stands for. The commands that started the
other measurements are what the host has sent: a `Dn` that is repeated still collects the same one. -/
def HostMemory.failed (m : HostMemory) (d : Descriptor) : HostMemory :=
  if d.kind = Kind.chaddr.code then
    { started := forget d.addr (forget d.newAddr m.started), left := [], ready := forget d.addr (forget d.newAddr m.ready) }
  else if startsWithCrc d = none then { m with left := [] }
  else { started := forget d.addr m.started, left := [], ready := forget d.addr m.ready }

/-- What the host knows after the step. A construction error sends nothing (R294) and leaves all as it was; a reset in the middle of a
transaction leaves the sensors unknown as well (R371). That the transaction after a failure begins with a break is the engine's doing
(R297, R311). -/
def HostMemory.next (m : HostMemory) (e : EnvStep) : HostMemory :=
  if e.before.busy = false then m
  else if e.after.cur.rst = true ∨ e.after.state = .failed then m.failed e.before.descriptor
  else if e.after.state = .success then m.succeeded e.before.descriptor e.announced
  else m

/-- R383 for a command about to be sent: `CRC_EXPECT` on a `Dn` as its measurement was started, no address a sensor has left, and no
data asked for before they are ready. DESIGN CHOICE (log 22): R383 asks for the wait before `Dn`; the model asks for it before `DBn` too,
which collects the data of `HB`. -/
def HostMemory.permits (m : HostMemory) (now : Instant) (d : Descriptor) : Bool :=
  !m.left.contains d.addr &&
    (decide (d.kind ≠ Kind.d.code) || decide (d.metaForm ≠ 0) || decide ((known m.started d.addr).getD d.crcExpect = d.crcExpect)) &&
    ((decide (d.kind ≠ Kind.d.code) && decide (d.kind ≠ Kind.db.code)) || decide ((known m.ready d.addr).getD now ≤ now))

/-- R383 over a run. -/
def followsProtocol (m : HostMemory) (run : List EnvStep) : Bool :=
  match run with
  | [] => true
  | e :: rest =>
    (match e.transacts with
      | none => true
      | some d => m.permits e.now d) && followsProtocol (m.next e) rest

/-! ## All together -/

/-- What the premises need to know of an environment when a run begins, beside the run itself. -/
structure EnvFacts where
  /-- accepted and not yet sent -/
  queue      : List (Framing × Byte)
  /-- the instant since which the line is marking, if it is -/
  marking    : Option Instant
  /-- the host's accesses to come -/
  program    : List HostAccess
  /-- a result waits to be read (R378) -/
  unread     : Bool
  /-- the host trusts its transport to go on (R380) -/
  trusted    : Bool
  /-- the upper limits on a break and on continuous marking (R381) -/
  breakLimit : Nat
  markLimit  : Nat
  /-- which halves of `ABORT_AT` are written since the last transaction (R382) -/
  abortLo    : Bool
  abortHi    : Bool
  /-- what the host remembers (R383) -/
  memory     : HostMemory
deriving DecidableEq, Repr

/-- The premises of R60 (a) to (d), and R291, on a run. -/
structure TransportPremises (f : EnvFacts) (run : List EnvStep) : Prop where
  rises   : ∀ e ∈ run, timesRise e.before.cur.now [e.after.cur] = true
  spaced  : timesSpaced run = true
  inOrder : sendsInOrder f.queue run = true
  done    : doneWhenSent f.queue run = true
  breaks  : holdsBreak run = true
  lines   : linesFit run = true

/-- The premises of R60 (e), the duties R376 to R383, on a run. -/
structure HostDuties (f : EnvFacts) (run : List EnvStep) : Prop where
  ordered  : inProgramOrder f.program run = true
  handsOff : ∀ e ∈ run, e.handsOff = true
  reads    : readsResults f.unread run = true
  inTime   : ∀ e ∈ run, e.listensInTime = true
  guarded  : ∀ e ∈ run, e.stallGuarded f.trusted = true
  breaks   : ∀ e ∈ run, e.breaksWithin f.breakLimit = true
  marks    : marksWithin f.markLimit f.queue f.marking run = true
  fresh    : freshDeadlines f.abortLo f.abortHi run = true
  protocol : followsProtocol f.memory run = true

end Sys2Proof.Machine
end

