-- ==== Sys2Proof/Safety.lean ====
section
/-! DEFINITION. What the rules keep true of the state, what a safe step is, and the terms of the statements. -/

namespace Sys2Proof.Machine

/-! ## The invariant -/

/-- Every index of a buffer is below its size: an access beyond it stores nothing (R79 of `20_memory.md`, R77). -/
def Memory.below (n : Nat) (m : Memory) : Bool := m.all fun c => decide (c.1 < n)

/-- The buffers keep their canonical form and their sizes (log 6; R77, R79). -/
abbrev State.BuffersWf (s : State) : Prop :=
  (s.txbuf.wf = true ∧ s.txbuf.below s.params.txbufSize = true) ∧ (s.rxbuf.wf = true ∧ s.rxbuf.below s.params.rxbufSize = true) ∧
    (s.xbuf.wf = true ∧ s.xbuf.below s.params.xbufSize = true)

/-- The reserved bits of the writable registers read 0 (R40, R44, R45, R46 of `10_state.md`). -/
abbrev State.ReservedClear (s : State) : Prop :=
  s.cfg &&& cfgMask = s.cfg ∧ s.cmd0 &&& cmd0Mask = s.cmd0 ∧ s.cmd1 &&& cmd1Mask = s.cmd1

/-- The line is in break in state `BreakSent` and in no other (R23 of `10_state.md`, R241, R242). -/
abbrev State.BreakByState (s : State) : Prop := s.breakO = true ↔ s.state = .breakSent

/-- Binary framing is asked for only in `AwaitingResponse` of a command with a binary response (R23, R271), and there always. -/
abbrev State.FramingByState (s : State) : Prop :=
  s.framing = if s.state = .awaitingResponse then respFmt s.descriptor else .ascii7E1

/-- The states in which an attempt is in progress: busy, its failure not yet decided. -/
def FsmState.attempting (q : FsmState) : Bool :=
  match q with
  | .breakSent | .markingWait | .commandSent | .awaitingResponse | .validating => true
  | .idle | .success | .retry | .failed => false

/-- The error registers by state (R23): none while an attempt is in progress and in `Success`, one in `Retry` and `Failed`, and a
sub-code only beside `Transport`. -/
abbrev State.ErrorByState (s : State) : Prop :=
  (s.state.attempting = true ∨ s.state = .success → s.err = .noError) ∧ (s.state = .retry ∨ s.state = .failed → s.err ≠ .noError) ∧
    (s.terr ≠ 0 → s.err = .transport)

/-- While busy, the descriptor registers pass the construction check and `TXBUF[0 .. r.tx_len)` is their wire string (R84, R173,
R246), which includes `r.tx_len <= TX_CAP <= TXBUF_SIZE` and the bounds of `RX_CAP` (R23, R175); `r.fmt` is the response format
(R298), and no more retries were made than configured (R23). -/
abbrev State.CommandByState (s : State) : Prop :=
  s.busy = true →
    s.construct true s.builtFromRegs = .ok (s.readBytes .tx 0 s.txLen.toNat) ∧ s.fmt = respFmt s.descriptor ∧ s.retryCnt ≤ s.retryMax

/-- The transmit pointer stays within the command while it is sent (R23, R299). -/
abbrev State.SendPointer (s : State) : Prop := s.state = .commandSent → s.txPtr ≤ s.txLen

/-- Reception in progress (R23, R266 to R269): room is left, and `r.rx_need` is 0 until the third byte of a binary frame, then the
length of a frame that fits and is not yet complete. -/
abbrev State.ReceivePointer (s : State) : Prop :=
  s.state = .awaitingResponse →
    s.rxLen < s.rxCap ∧
      (if s.framing = .binary8N1 ∧ 3 ≤ s.rxLen.toNat then
        s.rxNeed = 6 + s.packetSize.setWidth 17 ∧ s.rxNeed.toNat ≤ s.rxCap.toNat ∧ s.rxLen.toNat < s.rxNeed.toNat
      else s.rxNeed = 0)

/-- A frame under validation holds at least a byte and fits (R272); a binary one at least its fixed bytes (R268). -/
abbrev State.FrameBounds (s : State) : Prop :=
  s.state = .validating → 1 ≤ s.rxLen.toNat ∧ s.rxLen ≤ s.rxCap ∧ (s.fmt = .binary8N1 → 6 ≤ s.rxLen.toNat)

/-- The payload lies inside the frame (R23, R280), and there is none while busy or after a failure (R280, R294, R331). -/
abbrev State.PayloadBounds (s : State) : Prop :=
  s.payStart ≤ s.payEnd ∧ s.payEnd ≤ s.rxLen ∧
    (s.busy = true ∨ s.state = .failed → s.payStart = 0 ∧ s.payEnd = 0 ∧ s.crcPresent = false)

/-- The lengths fit the buffers, busy or not (R23, R175): the part of R23 that a host write to a capacity cannot break. -/
abbrev State.SizeBounds (s : State) : Prop :=
  s.txLen.toNat ≤ s.params.txbufSize ∧ s.rxLen.toNat ≤ s.params.rxbufSize

/-- The address that answered last is a sensor address, never the wildcard (R297). -/
abbrev State.LastByAnswer (s : State) : Prop := s.lastValid = true → isSensorAddr s.lastAddr = true

/-- `r.done` by state (R31): set in `Success` and `Failed`, clear while busy. -/
abbrev State.DoneByState (s : State) : Prop :=
  (s.state = .success ∨ s.state = .failed → s.done = true) ∧ (s.busy = true → s.done = false)

/-- What every step keeps (R23, as far as its clauses hold in every state the rules reach: log 10). -/
structure State.Inv (s : State) : Prop where
  params    : s.params.Valid
  buffers   : s.BuffersWf
  reserved  : s.ReservedClear
  breakLine : s.BreakByState
  framing   : s.FramingByState
  errors    : s.ErrorByState
  command   : s.CommandByState
  sending   : s.SendPointer
  receiving : s.ReceivePointer
  frame     : s.FrameBounds
  payload   : s.PayloadBounds
  sizes     : s.SizeBounds
  last      : s.LastByAnswer
  doneFlag  : s.DoneByState

/-! ## Safe steps -/

/-- A step that neither faults nor is refused. -/
abbrev GoesOn (o : StepOutcome) : Prop := ∃ t, o = .next t

/-! ## What an operation leaves (the terms of the statements) -/

/-- Every byte of the three buffers reads as before. -/
def KeepsBuffers (s t : State) : Prop := ∀ sp i, t.read sp i = s.read sp i

/-- A quiescent state whose capacities take a command of `n` bytes (R175 steps 1 and 8, R292). -/
def State.Admits (s : State) (n : Nat) : Prop :=
  s.busy = false ∧ s.txCap.toNat ≤ s.params.txbufSize ∧ s.rxCap ≠ 0 ∧ s.rxCap.toNat ≤ s.params.rxbufSize ∧ n ≤ s.txCap.toNat

/-- What the accepting step of a `TRANSACT` leaves when the construction check gives the wire bytes `w` (R226, R241, R293, R294,
R300): `TXBUF[0 .. |w|)` is `w`, every other byte of the buffers and every register not named is as before. -/
structure State.Started (s t : State) (fmt : Framing) (w : List Byte) : Prop where
  sent      : t.readBytes .tx 0 w.length = w
  untouched : ∀ sp i, sp ≠ .tx ∨ w.length ≤ i → t.read sp i = s.read sp i
  registers : t =
    { s with
      done := false
      err := .noError
      terr := 0
      retryCnt := 0
      rxLen := 0
      rxNeed := 0
      payStart := 0
      payEnd := 0
      crcPresent := false
      fmt := fmt
      txLen := BitVec.ofNat 16 w.length
      breakO := s.needBreak false || s.breakO
      t0 := if s.needBreak false = true then s.cur.now else s.t0
      txPtr := if s.needBreak false = true then s.txPtr else 0
      state := if s.needBreak false = true then .breakSent else .commandSent
      txbuf := t.txbuf }

/-- Executing `i` in `s` completes with a started transaction that sends `w` and expects a response of format `fmt`. -/
def Transacts (i : Instr) (s : State) (fmt : Framing) (w : List Byte) : Prop := ∃ t, exec i s = .next t ∧ s.Started t fmt w

/-- The state a construction error `e` ends a `TRANSACT` in (R294). -/
def State.constructionFailed (s : State) (e : ErrKind) : State :=
  { s with
    done := true
    state := .failed
    err := e
    terr := 0
    txLen := 0
    retryCnt := 0
    rxLen := 0
    rxNeed := 0
    payStart := 0
    payEnd := 0
    crcPresent := false
    fmt := .ascii7E1 }

/-- The state a synchronous operation that changes no result register ends in, with error `e` (R293, R336 (a)). -/
def State.finished (s : State) (e : ErrKind) : State :=
  { s with done := true, state := .idle, err := e, terr := 0 }

/-- `s` with what the host and the environment bring to a busy step taken from `t`: the overrun flag, the input, the outputs. -/
def State.beside (s t : State) : State :=
  { s with ovr := t.ovr, inputs := t.inputs, envIdx := t.envIdx, cur := t.cur, out := t.out }

/-- `s` after `attempt_fail(E, sub)` (R306). -/
def State.afterAttemptFail (s : State) (e : ErrKind) (sub : Byte) : State :=
  { s with err := e, terr := sub, breakO := false, framing := .ascii7E1, state := .retry }

/-- `s` after the overall deadline's `fail_final(Timeout)` (R306, R311, R313). -/
def State.afterAbort (s : State) : State :=
  { s with err := .timeout, terr := 0, breakO := false, framing := .ascii7E1, lastValid := false, state := .failed, done := true }

/-- The overall deadline has passed at instant `now` (R313). -/
def State.pastDeadline (s : State) (now : Instant) : Prop := s.cfg.getLsbD 11 = true ∧ s.abortHi ++ s.abortLo ≤ now

/-- The response deadline, or else the inter-byte timeout, has passed at instant `now` (R263, R264). -/
def State.responseLate (s : State) (now : Instant) : Prop :=
  s.tDead ≤ now ∨ (s.params.tInterbyte ≠ 0 ∧ s.rxLen ≠ 0 ∧ s.params.tInterbyte ≤ now.toNat - s.tLast.toNat)

/-- The errors a retry is granted for (R309). -/
def State.mayRetry (s : State) : Prop :=
  s.err = .transport ∨ s.err = .timeout ∨
    (s.cfg.getLsbD 8 = true ∧ (s.err = .addressMismatch ∨ s.err = .crcMismatch ∨ s.err = .terminator ∨ s.err = .crcDecode))

/-- `s` after an attempt has begun at the instant of its input (R241, R300). -/
def State.afterStart (s : State) (isRetry : Bool) : State :=
  if s.needBreak isRetry = true then
    { s with err := .noError, terr := 0, rxLen := 0, rxNeed := 0, breakO := true, t0 := s.cur.now, state := .breakSent }
  else { s with err := .noError, terr := 0, rxLen := 0, rxNeed := 0, txPtr := 0, state := .commandSent }

/-- `s` after a frame has been accepted with a payload that ends at `e` (R280, R308). -/
def State.afterSuccess (s : State) (e : Nat) (crc : Bool) : State :=
  { s with
    payStart := 1
    payEnd := BitVec.ofNat 16 e
    crcPresent := crc
    lastValid := true
    lastAddr := s.read .rx 0
    lastT := s.cur.now
    state := .success
    done := true }

/-- The defined bits of the read-write registers (R40, R44 to R49); 0 for every other register. -/
def csrMask (n : Nat) : Word :=
  match n with
  | 3 => 0x00001FFF
  | 4 => 0x1FFFFFFF
  | 5 => 0xFFFF03FF
  | 6 => 0xFFFFFFFF
  | 7 => 0x0000FFFF
  | 8 => 0x0000FFFF
  | 9 => 0xFFFFFFFF
  | 10 => 0xFFFFFFFF
  | 16 => 0x0000FFFF
  | 17 => 0x00FFFFFF
  | 18 => 0x0000FFFF
  | 19 => 0x0000FFFF
  | 20 => 0x00000007
  | _ => 0

/-- `CRC_CTL.BUF` selects the buffer `sp` (R49). -/
def State.crcSelects (s : State) (sp : Space) : Prop :=
  (sp = .rx ∧ s.crcCtl.extractLsb' 0 2 = 0) ∨ (sp = .tx ∧ s.crcCtl.extractLsb' 0 2 = 1) ∨ (sp = .xb ∧ s.crcCtl.extractLsb' 0 2 = 2)

/-- The range of the CRC operations lies inside the buffer `sp` (R158, R162). -/
def State.crcInside (s : State) (sp : Space) : Prop := s.crcStart ≤ s.crcEnd ∧ s.crcEnd.toNat ≤ s.size sp

/-- The bytes of the range of the CRC operations in the buffer `sp` (R158, R162). -/
def State.crcBytes (s : State) (sp : Space) : List Byte :=
  s.readBytes sp s.crcStart.toNat (s.crcEnd.toNat - s.crcStart.toNat)

/-- The waiting states (R296). -/
def FsmState.waiting (q : FsmState) : Bool :=
  match q with
  | .breakSent | .markingWait | .commandSent | .awaitingResponse => true
  | .idle | .validating | .success | .retry | .failed => false

/-- The pairs of the transition table (R312), reset apart, and staying where the table lets a state last longer than a step. -/
def FsmState.mayPrecede (p q : FsmState) : Bool :=
  match p with
  | .idle | .success | .failed =>
    p == q || q == .idle || q == .failed || q == .breakSent || q == .commandSent
  | .breakSent => q == .breakSent || q == .markingWait || q == .retry || q == .failed
  | .markingWait => q == .markingWait || q == .commandSent || q == .retry || q == .failed
  | .commandSent => q == .commandSent || q == .awaitingResponse || q == .retry || q == .failed
  | .awaitingResponse => q == .awaitingResponse || q == .validating || q == .retry || q == .failed
  | .validating => q == .success || q == .retry
  | .retry => q == .breakSent || q == .commandSent || q == .failed

/-- A command without its `CRC_EXPECT`, which is not on the wire (R127). -/
def onWire (i : Instr) : Instr :=
  match encodeCommand i with
  | none => i
  | some d =>
    match decodeCommand { d with crcExpect := false } (extendedBody i) with
    | .ok j => j
    | .error _ => i

/-- Bit `k` of byte `n` of `bs` flipped. -/
def flipBit (bs : List Byte) (n k : Nat) : List Byte := bs.set n (bs.getD n 0 ^^^ BitVec.twoPow 8 k)

end Sys2Proof.Machine
end

