-- ==== Sys2Proof/Certificates/Slice0/Obligations.lean ====
section
/-! DEFINITION. The statements for the provers, in the order of `OBLIGATIONS.json`. In a statement about a step, `t.cur` is the input
record the step took; `s.beside t` is `s` with the overrun flag, the input and the outputs the step left (`Safety.lean`). -/

open Sys2Proof Sys2Proof.Machine

/-! ## Encodings -/

/-- Four `CTRL` words, eight descriptors and three wire strings written out from R41, R45, R46, R120 to R127 decode to the operations
and commands they stand for, and the low four bits of the word written to `CTRL` select the operation, the others ignored (R41, R125).
The three wire strings are read by the model's own byte decoder, with `CRC_EXPECT` read as 0: DESIGN CHOICE, log 13 (R127). -/
def Obligations.DecodesWrittenWords : Prop :=
  decodeOp 0x00000001 = .transact ∧ decodeOp 0x00000008 = .clear ∧ decodeOp 0xFFFFFFF0 = .nop ∧ decodeOp 0x0000000F = .reservedOpF ∧
  decodeCommand (Descriptor.ofRegs 0x0000003F 0) [] = .ok .query ∧
  decodeCommand (Descriptor.ofRegs 0x00000230 0x00310000) [] = .ok (.chaddr 0x30 0x31) ∧
  decodeCommand (Descriptor.ofRegs 0x00090430 0) [] = .ok (.mcn 0x30 9) ∧
  decodeCommand (Descriptor.ofRegs 0x00020730 0) [] = .ok (.ccn 0x30 2) ∧
  decodeCommand (Descriptor.ofRegs 0x000C0D30 0) [] = .ok (.dbn 0x30 12) ∧
  decodeCommand (Descriptor.ofRegs 0x04010430 0) [] = .ok (.imcn 0x30 1) ∧
  decodeCommand (Descriptor.ofRegs 0x08090930 0x000003E7) [] = .ok (.ircnP 0x30 9 999 false) ∧
  decodeCommand (Descriptor.ofRegs 0x00000E30 0x02000000) [0x58, 0x54] = .ok (.x 0x30 [0x58, 0x54] false) ∧
  decode [0x61, 0x4D, 0x21] = .ok (.m 0x61) ∧ decode [0x61, 0x44, 0x30, 0x21] = .ok (.dn 0x61 0 false) ∧
  decode [0x30, 0x49, 0x52, 0x43, 0x39, 0x5F, 0x39, 0x39, 0x39, 0x21] = .ok (.ircnP 0x30 9 999 false) ∧
  ∀ v : Word, opCode (decodeOp v) = some (v.extractLsb' 0 4)

/-- The descriptor registers of a well-formed command decode to it (R120 to R122, R126). -/
def Obligations.DescriptorRoundTrip : Prop :=
  ∀ (i : Instr) (d : Descriptor), i.WellFormed → encodeCommand i = some d →
    decodeCommand (Descriptor.ofRegs d.cmd0 d.cmd1) (extendedBody i) = .ok i

/-- The wire string of a well-formed command of rows 1 to 43, and the `CTRL` word of a host operation, decode to it; `CRC_EXPECT` is
not on the wire (R127). -/
def Obligations.WireRoundTrip : Prop :=
  ∀ i : Instr, i.WellFormed → (∀ a body crc, i ≠ .x a body crc) → decode (encode i) = .ok (onWire i)

/-- A descriptor passes the construction check exactly when it spells a well-formed command whose body fits, and its wire string is
then that command's (R121 to R123, R126, R172, R175). -/
def Obligations.CheckAcceptsWellFormed : Prop :=
  ∀ (xbufSize : Nat) (d : Descriptor) (body w : List Byte), body.length = d.xlen.toNat →
    (checkedWire xbufSize d body = .ok w ↔
      ∃ i, decodeCommand d body = .ok i ∧ i.WellFormed ∧ (extendedBody i).length ≤ xbufSize ∧ encode i = w)

/-- The shape of every command the check accepts (R105, R228 (c) and (d)). -/
def Obligations.CommandFrameShape : Prop :=
  ∀ (xbufSize : Nat) (d : Descriptor) (body w : List Byte), body.length = d.xlen.toNat → checkedWire xbufSize d body = .ok w →
    w.head? = some d.addr ∧ w.getLast? = some 0x21 ∧ 0x21#8 ∉ w.dropLast ∧ 2 ≤ w.length ∧ w.length ≤ max 10 (2 + xbufSize) ∧
      ∀ b ∈ w, b < 0x80#8

/-! ## Characters and the CRC -/

/-- The address alphabet (R106): 62 sensor addresses and one wildcard. -/
def Obligations.AddressAlphabet : Prop :=
  (∀ c : Byte, isSensorAddr c = true ↔
    (0x30#8 ≤ c ∧ c ≤ 0x39#8) ∨ (0x61#8 ≤ c ∧ c ≤ 0x7A#8) ∨ (0x41#8 ≤ c ∧ c ≤ 0x5A#8)) ∧
  (∀ c : Byte, isAddr c = true ↔ isSensorAddr c = true ∨ c = 0x3F#8) ∧
  ((List.range 256).filter fun n => isSensorAddr (BitVec.ofNat 8 n)).length = 62 ∧
  ((List.range 256).filter fun n => isAddr (BitVec.ofNat 8 n)).length = 63

/-- The decimal spellings (R10, R108, R163 (b)): `dec` without a leading zero, `ddd` with three digits, most significant first; and
the index types: each check of R175 takes exactly the range of its index (R172), which keeps its value and spells its digits. -/
def Obligations.DecimalSpelling : Prop :=
  (∀ n : Fin 1000,
    ddd n = [BitVec.ofNat 8 (48 + n.val / 100), BitVec.ofNat 8 (48 + n.val / 10 % 10), BitVec.ofNat 8 (48 + n.val % 10)] ∧
    dec n = (if 100 ≤ n.val then ddd n else if 10 ≤ n.val then (ddd n).drop 1 else (ddd n).drop 2)) ∧
  ∀ f : BitVec 10,
    (SetIndex.ofField f = none ↔ 9 < f.toNat) ∧ (ContIndex.ofField f = none ↔ 9 < f.toNat) ∧
    (DataIndex.ofField f = none ↔ 999 < f.toNat) ∧ (ParamNumber.ofField f = none ↔ f.toNat = 0 ∨ 999 < f.toNat) ∧
    (∀ n, SetIndex.ofField f = some n → n.value.val = f.toNat ∧ n.text = if f = 0 then [] else [0x30#8 + f.setWidth 8]) ∧
    (∀ n, ContIndex.ofField f = some n → n.value.val = f.toNat ∧ n.text = [0x30#8 + f.setWidth 8]) ∧
    (∀ n, DataIndex.ofField f = some n → n.value.val = f.toNat ∧ n.text = dec n.value) ∧
    ∀ p, ParamNumber.ofField f = some p → p.value.val = f.toNat ∧ p.text = ddd p.value

/-- Parity on the way in, and its inverse on the way out (R103; R265 for what a parity error does). -/
def Obligations.ParityRoundTrip : Prop :=
  (∀ lb : Byte, charOf .ascii7E1 lb =
    if lb.cpop.getLsbD 0 = true then none else some ((lb.extractLsb' 0 7).setWidth 8)) ∧
  (∀ lb : Byte, charOf .binary8N1 lb = some lb) ∧
  (∀ c : Byte, c < 0x80#8 → charOf .ascii7E1 (lineByte .ascii7E1 c) = some c) ∧
  (∀ c : Byte, charOf .binary8N1 (lineByte .binary8N1 c) = some c) ∧
  (∀ (s : State) (lb : Byte), s.cur.rx = .byte lb → charOf s.framing lb = none →
    s.receive = .next (s.afterAttemptFail .transport 0x01))

/-- The laws of `crc16` (R152): linearity, single-bit sensitivity, the check value, the incremental form. -/
def Obligations.CrcLaws : Prop :=
  (∀ s t : List Byte, s.length = t.length → crc16 (List.zipWith (· ^^^ ·) s t) = crc16 s ^^^ crc16 t) ∧
  (∀ (s : List Byte) (n k : Nat), n < s.length → k < 8 → crc16 (flipBit s n k) ≠ crc16 s) ∧
  crc16 [0x31, 0x32, 0x33, 0x34, 0x35, 0x36, 0x37, 0x38, 0x39] = 0xBB3D#16 ∧
  (∀ s t : List Byte, crc16 (s ++ t) = t.foldl crc16Update (crc16 s))

/-- The text form of a CRC decodes to it, and nothing else does (R155). -/
def Obligations.CrcTextRoundTrip : Prop :=
  (∀ p : List Byte, dec3 (enc3 (crc16 p)) = some (crc16 p)) ∧ (∀ c : BitVec 16, dec3 (enc3 c) = some c) ∧
  ∀ (x : CrcText) (c : BitVec 16), dec3 x = some c → enc3 c = x

/-- A sequence followed by its own CRC verifies in either form, and one followed by another CRC does not; three last bytes that are no
CRC text are a decode error, whatever the rest (R157, R161). -/
def Obligations.VerifyAcceptsOwnCrc : Prop :=
  (∀ (s : List Byte) (c : BitVec 16),
    verifyAscii (s ++ [(enc3 c).c0, (enc3 c).c1, (enc3 c).c2]) =
      if crc16 s = c then .ok (crc16 s) else .crcMismatch (crc16 s) c) ∧
  (∀ (s : List Byte) (c : BitVec 16),
    verifyBinary (s ++ [(encb c).1, (encb c).2]) = if crc16 s = c then .ok (crc16 s) else .crcMismatch (crc16 s) c) ∧
  (∀ (s : List Byte) (x : CrcText), dec3 x = none → verifyAscii (s ++ [x.c0, x.c1, x.c2]) = .crcDecode) ∧
  (∀ s : List Byte, s.length < 3 → verifyAscii s = .crcDecode) ∧ (∀ s : List Byte, s.length < 2 → verifyBinary s = .crcDecode)

/-! ## What a transaction takes from its descriptor -/

/-- The response format, the CRC mode, the expected address and the deadline of a descriptor, over the numeric codes (R111, R112,
R113, R262). -/
def Obligations.DescriptorAttributes : Prop :=
  ∀ (d : Descriptor), Kind.ofCode d.kind ≠ none →
    (respFmt d = if d.kind = 0x0D#8 then .binary8N1 else .ascii7E1) ∧
    (crcMode d =
      if d.kind = 0x0D#8 then .binary
      else if (d.kind = 0x09#8 ∧ d.metaForm = 0) ∨ (d.crcExpect = true ∧ (d.kind = 0x0A#8 ∨ d.kind = 0x0E#8 ∨ d.metaForm = 2)) then
        .ascii
      else .none) ∧
    (∀ c : Byte, addrOk d c = true ↔
      if d.kind = 0x02#8 then c = d.newAddr else if d.addr = 0x3F#8 then isSensorAddr c = true else c = d.addr) ∧
    ∀ (p : Params) (tOvr : Word), tResp p tOvr d =
      if tOvr ≠ 0 then tOvr.toNat
      else if d.metaForm = 0 ∧ (d.kind = 0x00#8 ∨ d.kind = 0x02#8) then p.tRespExpedited
      else if (d.metaForm = 0 ∨ d.metaForm = 1) ∧ d.kind ∈ [0x03#8, 0x04#8, 0x05#8, 0x06#8, 0x07#8, 0x0B#8, 0x0C#8] then
        p.tRespMeasurement
      else p.tRespStandard

/-- The construction check over the bits of the registers, in the order of its steps (R175); when all pass it gives the wire string of
the command the descriptor spells. -/
def Obligations.ConstructionCheckOrder : Prop :=
  ∀ (s : State) (forTransact : Bool),
    let addr := s.cmd0.extractLsb' 0 8
    let kind := (s.cmd0.extractLsb' 8 8).toNat
    let idx := (s.cmd0.extractLsb' 16 10).toNat
    let form := (s.cmd0.extractLsb' 26 2).toNat
    let param := (s.cmd1.extractLsb' 0 10).toNat
    let newAddr := s.cmd1.extractLsb' 16 8
    let xlen := (s.cmd1.extractLsb' 24 8).toNat
    s.construct forTransact s.builtFromRegs =
      if s.params.txbufSize < s.txCap.toNat then .error .illegalEncoding
      else if forTransact = true ∧ (s.rxCap = 0 ∨ s.params.rxbufSize < s.rxCap.toNat) then .error .illegalEncoding
      else if 0x0E < kind ∨ form = 3 then .error .illegalEncoding
      else if form = 1 ∧ kind ∉ [3, 4, 5, 6, 7, 11, 12] then .error .illegalEncoding
      else if form = 2 ∧ kind ∉ [3, 4, 5, 6, 7, 8, 9, 11, 12] then .error .illegalEncoding
      else if isAddr addr = false then .error .invalidAddress
      else if addr = 0x3F#8 ∧ ¬(kind = 0 ∧ form = 0) then .error .invalidAddress
      else if kind = 2 ∧ isSensorAddr newAddr = false then .error .invalidAddress
      else if kind ∈ [3, 4, 6, 7, 8, 9] ∧ 9 < idx then .error .indexOutOfRange
      else if kind ∈ [10, 13] ∧ 999 < idx then .error .indexOutOfRange
      else if form = 2 ∧ (param = 0 ∨ 999 < param) then .error .indexOutOfRange
      else if kind = 14 ∧ s.params.xbufSize < xlen then .error .illegalEncoding
      else if kind = 14 ∧ (∃ j < xlen, s.read .xb j < 0x20#8 ∨ 0x7E#8 < s.read .xb j ∨ s.read .xb j = 0x21#8) then
        .error .illegalEncoding
      else
        match s.carried with
        | none => .error .illegalEncoding
        | some i => if s.txCap.toNat < (encode i).length then .error .capacity else .ok (encode i)

/-! ## The commands -/

/-- The commands whose operands are addresses send their letters and start an attempt (R180 to R184, R186, R188, R189, R191, R196,
R197). -/
def Obligations.AddressCommandsStart : Prop :=
  ∀ (s : State) (a : Byte), isSensorAddr a = true →
    (s.Admits 2 → Transacts (.ack a) s .ascii7E1 [a, 0x21]) ∧
    (s.Admits 2 → Transacts .query s .ascii7E1 [0x3F, 0x21]) ∧
    (s.Admits 3 → Transacts (.ident a) s .ascii7E1 [a, 0x49, 0x21]) ∧
    (s.Admits 3 → Transacts (.m a) s .ascii7E1 [a, 0x4D, 0x21]) ∧
    (s.Admits 4 → Transacts (.mc a) s .ascii7E1 [a, 0x4D, 0x43, 0x21]) ∧
    (s.Admits 3 → Transacts (.v a) s .ascii7E1 [a, 0x56, 0x21]) ∧
    (s.Admits 3 → Transacts (.c a) s .ascii7E1 [a, 0x43, 0x21]) ∧
    (s.Admits 4 → Transacts (.cc a) s .ascii7E1 [a, 0x43, 0x43, 0x21]) ∧
    (s.Admits 4 → Transacts (.ha a) s .ascii7E1 [a, 0x48, 0x41, 0x21]) ∧
    (s.Admits 4 → Transacts (.hb a) s .ascii7E1 [a, 0x48, 0x42, 0x21]) ∧
    ∀ b : Byte, isSensorAddr b = true → s.Admits 4 → Transacts (.chaddr a b) s .ascii7E1 [a, 0x41, b, 0x21]

/-- The measurement commands with a set digit 1 to 9 (R185, R187, R190, R192). -/
def Obligations.MeasurementSetsStart : Prop :=
  ∀ (s : State) (a : Byte) (n : BitVec 10), isSensorAddr a = true → 1 ≤ n.toNat → n.toNat ≤ 9 →
    (s.Admits 4 → Transacts (.mn a n) s .ascii7E1 [a, 0x4D, 0x30 + n.setWidth 8, 0x21]) ∧
    (s.Admits 5 → Transacts (.mcn a n) s .ascii7E1 [a, 0x4D, 0x43, 0x30 + n.setWidth 8, 0x21]) ∧
    (s.Admits 4 → Transacts (.cn a n) s .ascii7E1 [a, 0x43, 0x30 + n.setWidth 8, 0x21]) ∧
    (s.Admits 5 → Transacts (.ccn a n) s .ascii7E1 [a, 0x43, 0x43, 0x30 + n.setWidth 8, 0x21])

/-- The continuous-measurement commands, digit 0 to 9 (R193, R194). -/
def Obligations.ContinuousCommandsStart : Prop :=
  ∀ (s : State) (a : Byte) (n : BitVec 10), isSensorAddr a = true → n.toNat ≤ 9 →
    (s.Admits 4 → Transacts (.rn a n) s .ascii7E1 [a, 0x52, 0x30 + n.setWidth 8, 0x21]) ∧
    (s.Admits 5 → Transacts (.rcn a n) s .ascii7E1 [a, 0x52, 0x43, 0x30 + n.setWidth 8, 0x21])

/-- The data commands, index 0 to 999; only `DBn` expects a binary response (R195, R198). -/
def Obligations.DataCommandsStart : Prop :=
  ∀ (s : State) (a : Byte) (n : BitVec 10) (crc : Bool) (h : n.toNat < 1000), isSensorAddr a = true →
    (s.Admits (3 + (dec ⟨n.toNat, h⟩).length) →
      Transacts (.dn a n crc) s .ascii7E1 ([a, 0x44] ++ dec ⟨n.toNat, h⟩ ++ [0x21])) ∧
    (s.Admits (4 + (dec ⟨n.toNat, h⟩).length) →
      Transacts (.dbn a n) s .binary8N1 ([a, 0x44, 0x42] ++ dec ⟨n.toNat, h⟩ ++ [0x21]))

/-- The identify-measurement commands (R199 to R209). -/
def Obligations.IdentifyCommandsStart : Prop :=
  ∀ (s : State) (a : Byte), isSensorAddr a = true →
    (s.Admits 4 → Transacts (.im a) s .ascii7E1 [a, 0x49, 0x4D, 0x21]) ∧
    (s.Admits 5 → Transacts (.imc a) s .ascii7E1 [a, 0x49, 0x4D, 0x43, 0x21]) ∧
    (s.Admits 4 → Transacts (.iv a) s .ascii7E1 [a, 0x49, 0x56, 0x21]) ∧
    (s.Admits 4 → Transacts (.ic a) s .ascii7E1 [a, 0x49, 0x43, 0x21]) ∧
    (s.Admits 5 → Transacts (.icc a) s .ascii7E1 [a, 0x49, 0x43, 0x43, 0x21]) ∧
    (s.Admits 5 → Transacts (.iha a) s .ascii7E1 [a, 0x49, 0x48, 0x41, 0x21]) ∧
    (s.Admits 5 → Transacts (.ihb a) s .ascii7E1 [a, 0x49, 0x48, 0x42, 0x21]) ∧
    ∀ n : BitVec 10, 1 ≤ n.toNat → n.toNat ≤ 9 →
      (s.Admits 5 → Transacts (.imn a n) s .ascii7E1 [a, 0x49, 0x4D, 0x30 + n.setWidth 8, 0x21]) ∧
      (s.Admits 6 → Transacts (.imcn a n) s .ascii7E1 [a, 0x49, 0x4D, 0x43, 0x30 + n.setWidth 8, 0x21]) ∧
      (s.Admits 5 → Transacts (.icn a n) s .ascii7E1 [a, 0x49, 0x43, 0x30 + n.setWidth 8, 0x21]) ∧
      (s.Admits 6 → Transacts (.iccn a n) s .ascii7E1 [a, 0x49, 0x43, 0x43, 0x30 + n.setWidth 8, 0x21])

/-- The identify-measurement-parameter commands, parameter 1 to 999 (R210 to R222). -/
def Obligations.ParameterCommandsStart : Prop :=
  ∀ (s : State) (a : Byte) (p : BitVec 10) (crc : Bool) (h : p.toNat < 1000), isSensorAddr a = true → 1 ≤ p.toNat →
    let ppp := [0x5F#8] ++ ddd ⟨p.toNat, h⟩ ++ [0x21#8]
    (s.Admits 8 → Transacts (.imP a p crc) s .ascii7E1 ([a, 0x49, 0x4D] ++ ppp)) ∧
    (s.Admits 9 → Transacts (.imcP a p crc) s .ascii7E1 ([a, 0x49, 0x4D, 0x43] ++ ppp)) ∧
    (s.Admits 8 → Transacts (.ivP a p crc) s .ascii7E1 ([a, 0x49, 0x56] ++ ppp)) ∧
    (s.Admits 8 → Transacts (.icP a p crc) s .ascii7E1 ([a, 0x49, 0x43] ++ ppp)) ∧
    (s.Admits 9 → Transacts (.iccP a p crc) s .ascii7E1 ([a, 0x49, 0x43, 0x43] ++ ppp)) ∧
    (s.Admits 9 → Transacts (.ihaP a p crc) s .ascii7E1 ([a, 0x49, 0x48, 0x41] ++ ppp)) ∧
    (s.Admits 9 → Transacts (.ihbP a p crc) s .ascii7E1 ([a, 0x49, 0x48, 0x42] ++ ppp)) ∧
    ∀ n : BitVec 10, n.toNat ≤ 9 →
      (s.Admits 9 → Transacts (.irnP a n p crc) s .ascii7E1 ([a, 0x49, 0x52, 0x30 + n.setWidth 8] ++ ppp)) ∧
      (s.Admits 10 → Transacts (.ircnP a n p crc) s .ascii7E1 ([a, 0x49, 0x52, 0x43, 0x30 + n.setWidth 8] ++ ppp)) ∧
      (1 ≤ n.toNat →
        (s.Admits 9 → Transacts (.imnP a n p crc) s .ascii7E1 ([a, 0x49, 0x4D, 0x30 + n.setWidth 8] ++ ppp)) ∧
        (s.Admits 10 → Transacts (.imcnP a n p crc) s .ascii7E1 ([a, 0x49, 0x4D, 0x43, 0x30 + n.setWidth 8] ++ ppp)) ∧
        (s.Admits 9 → Transacts (.icnP a n p crc) s .ascii7E1 ([a, 0x49, 0x43, 0x30 + n.setWidth 8] ++ ppp)) ∧
        (s.Admits 10 → Transacts (.iccnP a n p crc) s .ascii7E1 ([a, 0x49, 0x43, 0x43, 0x30 + n.setWidth 8] ++ ppp)))

/-- The extended command sends its body verbatim (R224). -/
def Obligations.ExtendedCommandStarts : Prop :=
  ∀ (s : State) (a : Byte) (body : List Byte) (crc : Bool), isSensorAddr a = true → body.length ≤ s.params.xbufSize →
    (∀ b ∈ body, 0x20#8 ≤ b ∧ b ≤ 0x7E#8 ∧ b ≠ 0x21#8) → s.Admits (2 + body.length) →
    Transacts (.x a body crc) s .ascii7E1 ([a] ++ body ++ [0x21])

/-- A command whose operands are not those its rule allows is never sent: it ends in `Failed`, with the registers of R294 and nothing
else changed (R170, R172, R294, R333). Operands no descriptor spells are the model's convention (log 14). -/
def Obligations.IllFormedCommandsFail : Prop :=
  ∀ (i : Instr) (d : Descriptor) (s : State), encodeCommand i = some d → ¬i.WellFormed → s.params.xbufSize ≤ 255 → s.busy = false →
    ∃ e, (e = .invalidAddress ∨ e = .indexOutOfRange ∨ e = .illegalEncoding) ∧ exec i s = .next (s.constructionFailed e)

/-- A well-formed command whose capacities are illegal, whose body is longer than `XBUF` or whose wire string is longer than `TX_CAP` is
never sent (R47, R175 steps 1, 7 and 8, R224, R294). -/
def Obligations.CapacityErrors : Prop :=
  ∀ (i : Instr) (d : Descriptor) (s : State), encodeCommand i = some d → i.WellFormed → s.busy = false →
    let badCapacity := s.params.txbufSize < s.txCap.toNat ∨ s.rxCap = 0 ∨ s.params.rxbufSize < s.rxCap.toNat
    (badCapacity ∨ s.params.xbufSize < (extendedBody i).length →
      exec i s = .next (s.constructionFailed .illegalEncoding)) ∧
    (¬badCapacity → (extendedBody i).length ≤ s.params.xbufSize → s.txCap.toNat < (encode i).length →
      exec i s = .next (s.constructionFailed .capacity))

/-- The command a descriptor spells does what `TRANSACT` does with that descriptor (R176, R294). -/
def Obligations.CommandIsItsTransact : Prop :=
  ∀ (s : State) (i : Instr), s.carried = some i → exec i s = exec .transact s

/-- `TRANSACT` (R294): a construction error ends it at once, nothing sent; else the formatted command and its first attempt. -/
def Obligations.TransactOutcome : Prop :=
  ∀ s : State, s.busy = false →
    (∀ e, s.construct true s.builtFromRegs = .error e → exec .transact s = .next (s.constructionFailed e)) ∧
    (∀ w, s.construct true s.builtFromRegs = .ok w → Transacts .transact s (respFmt s.descriptor) w)

/-! ## The synchronous operations -/

/-- `NOP` and the seven reserved codes (R128, R293). -/
def Obligations.NopAndReservedCodes : Prop :=
  ∀ s : State, s.busy = false →
    exec .nop s = .next (s.finished .noError) ∧
    ∀ i ∈ [Instr.reservedOp9, .reservedOpA, .reservedOpB, .reservedOpC, .reservedOpD, .reservedOpE, .reservedOpF],
      exec i s = .next (s.finished .illegalEncoding)

/-- `CLEAR` (R295): accepted only in a quiescent state; nothing but the named registers changes. -/
def Obligations.ClearEffect : Prop :=
  ∀ s : State,
    (s.busy = false → exec .clear s = .next { s with state := .idle, err := .noError, terr := 0, done := false, ovr := false }) ∧
    (s.busy = true → exec .clear s = .next { s with ovr := true })

/-- `ADDR_CHECK` (R171), with the corner cases of the rule: `'?'` passes; `0x00`, `' '`, `'!'` and `0x80 | '0'` fail. -/
def Obligations.AddrCheckResult : Prop :=
  (∀ s : State, s.busy = false →
    exec .addrCheck s = .next (s.finished (if isAddr (s.cmd0.extractLsb' 0 8) = true then .noError else .invalidAddress))) ∧
  isAddr 0x3F = true ∧ isAddr 0x61 = true ∧ ∀ c ∈ [0x00#8, 0x20#8, 0x21#8, 0xB0#8, 0x2A#8], isAddr c = false

/-- `CMD_FORMAT` (R225, R226): the command formatted into `TXBUF` and nothing sent, or the construction error. -/
def Obligations.CmdFormatResult : Prop :=
  ∀ s : State, s.busy = false →
    (∀ e, s.construct false s.builtFromRegs = .error e → exec .cmdFormat s = .next { s.finished e with txLen := 0 }) ∧
    (∀ w, s.construct false s.builtFromRegs = .ok w →
      ∃ t, exec .cmdFormat s = .next t ∧ t = { s.finished .noError with txLen := BitVec.ofNat 16 w.length, txbuf := t.txbuf } ∧
        t.readBytes .tx 0 w.length = w ∧ ∀ sp j, sp ≠ .tx ∨ w.length ≤ j → t.read sp j = s.read sp j)

/-- `CRC_COMPUTE` (R158): the CRC of the selected range, or `IllegalEncoding` with `CRC_VAL` unchanged. -/
def Obligations.CrcComputeResult : Prop :=
  ∀ s : State, s.busy = false →
    (∀ sp, s.crcSelects sp →
      (s.crcInside sp → exec .crcCompute s = .next { s.finished .noError with crcVal := crc16 (s.crcBytes sp) }) ∧
      (¬s.crcInside sp → exec .crcCompute s = .next (s.finished .illegalEncoding))) ∧
    (s.crcCtl.extractLsb' 0 2 = 3 → exec .crcCompute s = .next (s.finished .illegalEncoding))

/-- `CRC_ENC_ASCII` (R159) and `CRC_DEC_ASCII` (R160). -/
def Obligations.CrcTextOperations : Prop :=
  ∀ s : State, s.busy = false →
    (∃ x, exec .crcEncAscii s = .next { s.finished .noError with crcTxt := x } ∧ x.extractLsb' 0 8 = (enc3 s.crcVal).c0 ∧
      x.extractLsb' 8 8 = (enc3 s.crcVal).c1 ∧ x.extractLsb' 16 8 = (enc3 s.crcVal).c2) ∧
    let text : CrcText := ⟨s.crcTxt.extractLsb' 0 8, s.crcTxt.extractLsb' 8 8, s.crcTxt.extractLsb' 16 8⟩
    (∀ v, dec3 text = some v → exec .crcDecAscii s = .next { s.finished .noError with crcVal := v }) ∧
    (dec3 text = none → exec .crcDecAscii s = .next (s.finished .crcDecode))

/-- `CRC_VERIFY` (R162): on a mismatch `CRC_VAL` takes the computed CRC, on the other errors it is unchanged. -/
def Obligations.CrcVerifyResult : Prop :=
  ∀ s : State, s.busy = false →
    (s.crcCtl.extractLsb' 0 2 = 3 → exec .crcVerify s = .next (s.finished .illegalEncoding)) ∧
    ∀ sp, s.crcSelects sp →
      (¬s.crcInside sp → exec .crcVerify s = .next (s.finished .illegalEncoding)) ∧
      (s.crcInside sp →
        let verified := if s.crcCtl.getLsbD 2 = true then verifyBinary (s.crcBytes sp) else verifyAscii (s.crcBytes sp)
        (∀ v, verified = .ok v → exec .crcVerify s = .next { s.finished .noError with crcVal := v }) ∧
        (∀ v r, verified = .crcMismatch v r → exec .crcVerify s = .next { s.finished .crcMismatch with crcVal := v }) ∧
        (verified = .crcDecode → exec .crcVerify s = .next (s.finished .crcDecode)))

/-! ## The host port -/

/-- Every operation answers a next state in every state (R293, R315), and one written while busy is refused: nothing happens but `OVR`
(R41, R292). -/
def Obligations.EveryOperationGoesOn : Prop :=
  ∀ (i : Instr) (s : State), (∃ t, exec i s = .next t) ∧ (s.busy = true → exec i s = .next { s with ovr := true })

/-- A register write (R40, R292): while quiescent the defined bits take the value, the next state is the old one with that register
changed and no other, and every other register reads as before (but `STATUS.IRQ`, which `CFG` gates); while busy it is refused; a
register that is not read-write ignores it. -/
def Obligations.RegisterWrites : Prop :=
  ∀ (s : State) (n : Nat) (v : Word), s.cur.host = .wrCsr n v → n ≠ 0 →
    (csrMask n ≠ 0 → s.busy = false →
      ∃ t, s.hostPhase = .next t ∧ t.readCsr n = v &&& csrMask n ∧ (∀ m, m ≠ n → (m = 1 → n ≠ 3) → t.readCsr m = s.readCsr m) ∧
        (n = 3 → t = { s with cfg := t.cfg }) ∧ (n = 4 → t = { s with cmd0 := t.cmd0 }) ∧ (n = 5 → t = { s with cmd1 := t.cmd1 }) ∧
        (n = 6 → t = { s with tOvr := t.tOvr }) ∧ (n = 7 → t = { s with txCap := t.txCap }) ∧
        (n = 8 → t = { s with rxCap := t.rxCap }) ∧ (n = 9 → t = { s with abortLo := t.abortLo }) ∧
        (n = 10 → t = { s with abortHi := t.abortHi }) ∧ (n = 16 → t = { s with crcVal := t.crcVal }) ∧
        (n = 17 → t = { s with crcTxt := t.crcTxt }) ∧ (n = 18 → t = { s with crcStart := t.crcStart }) ∧
        (n = 19 → t = { s with crcEnd := t.crcEnd }) ∧ (n = 20 → t = { s with crcCtl := t.crcCtl }) ∧
        n ∈ [3, 4, 5, 6, 7, 8, 9, 10, 16, 17, 18, 19, 20] ∧ KeepsBuffers s t) ∧
    (csrMask n ≠ 0 → s.busy = true → s.hostPhase = .next { s with ovr := true }) ∧
    (csrMask n = 0 → s.hostPhase = .next s)

/-- A host buffer access: out of range it reads 0 and writes nothing with no flag (R79), while busy it is refused, else it reads or
writes the one byte (R292). That an access out of range sets no flag even while busy takes R79 against R292: DEDUCED, log 7. -/
def Obligations.BufferAccesses : Prop :=
  ∀ (s : State) (sp : Space) (i : BitVec 16),
    (s.cur.host = .rdBuf sp i →
      (s.size sp ≤ i.toNat → s.hostPhase = .next { s with out := { s.out with rdata := 0 } }) ∧
      (i.toNat < s.size sp → s.busy = true → s.hostPhase = .next { s with ovr := true, out := { s.out with rdata := 0 } }) ∧
      (i.toNat < s.size sp → s.busy = false →
        s.hostPhase = .next { s with out := { s.out with rdata := (s.read sp i.toNat).setWidth 32 } })) ∧
    ∀ v : Byte, s.cur.host = .wrBuf sp i v →
      (s.size sp ≤ i.toNat → s.hostPhase = .next s) ∧
      (i.toNat < s.size sp → s.busy = true → s.hostPhase = .next { s with ovr := true }) ∧
      (i.toNat < s.size sp → s.busy = false →
        ∃ t, s.hostPhase = .next t ∧ t.read sp i.toNat = v ∧ (∀ sq j, sq ≠ sp ∨ j ≠ i.toNat → t.read sq j = s.read sq j) ∧
          t = { s with txbuf := t.txbuf, rxbuf := t.rxbuf, xbuf := t.xbuf })

/-- The fields of `STATUS`, `RESULT` and `LAST` (R42, R43, R51) with the numbers of the states (R20), the errors (R330) and the framing
bits (R22), the read-write registers, the lengths, the retry count and the halves of the instants, 0 for `CTRL` and past register 27
(R40), and that a register read changes nothing (R78). That the read shows `STATUS.IRQ` as it is in the host phase, and not as
`out.irq_o` after the step (R42, R340), is the model's inference: DEDUCED, log 19. -/
def Obligations.RegisterReads : Prop :=
  ∀ s : State,
    ((s.readCsr 1).extractLsb' 0 4 =
        (match s.state with
          | .idle => 0
          | .breakSent => 1
          | .markingWait => 2
          | .commandSent => 3
          | .awaitingResponse => 4
          | .validating => 5
          | .success => 6
          | .retry => 7
          | .failed => 8) ∧
      ((s.readCsr 1).getLsbD 4 = true ↔ s.state ≠ .idle ∧ s.state ≠ .success ∧ s.state ≠ .failed) ∧
      (s.readCsr 1).getLsbD 5 = s.done ∧ ((s.readCsr 1).getLsbD 6 = true ↔ s.framing = .binary8N1) ∧ (s.readCsr 1).getLsbD 7 = s.ovr ∧ (s.readCsr 1).getLsbD 8 = s.breakO ∧
      (s.readCsr 1).getLsbD 9 = s.lastValid ∧ (s.readCsr 1).getLsbD 10 = (s.done && s.cfg.getLsbD 12) ∧
      (s.readCsr 1).extractLsb' 11 21 = 0) ∧
    ((s.readCsr 2).extractLsb' 0 4 =
        (match s.err with
          | .noError => 0
          | .invalidAddress => 1
          | .indexOutOfRange => 2
          | .capacity => 3
          | .transport => 4
          | .timeout => 5
          | .addressMismatch => 6
          | .crcMismatch => 7
          | .terminator => 8
          | .crcDecode => 9
          | .illegalEncoding => 10) ∧
      (s.readCsr 2).extractLsb' 4 4 = 0 ∧ (s.readCsr 2).extractLsb' 8 8 = s.terr ∧
      ((s.readCsr 2).getLsbD 16 = true ↔ s.fmt = .binary8N1) ∧ (s.readCsr 2).getLsbD 17 = s.crcPresent ∧
      (s.readCsr 2).extractLsb' 18 14 = 0) ∧
    ((s.readCsr 21).extractLsb' 0 8 = s.lastAddr ∧ (s.readCsr 21).getLsbD 8 = s.lastValid ∧ (s.readCsr 21).extractLsb' 9 23 = 0) ∧
    (s.readCsr 11 = s.txLen.setWidth 32 ∧ s.readCsr 12 = s.rxLen.setWidth 32 ∧ s.readCsr 13 = s.payStart.setWidth 32 ∧
      s.readCsr 14 = s.payEnd.setWidth 32 ∧ s.readCsr 15 = s.retryCnt.setWidth 32) ∧
    (s.readCsr 3 = s.cfg ∧ s.readCsr 4 = s.cmd0 ∧ s.readCsr 5 = s.cmd1 ∧ s.readCsr 6 = s.tOvr ∧ s.readCsr 7 = s.txCap.setWidth 32 ∧
      s.readCsr 8 = s.rxCap.setWidth 32 ∧ s.readCsr 9 = s.abortLo ∧ s.readCsr 10 = s.abortHi ∧
      s.readCsr 16 = s.crcVal.setWidth 32 ∧ s.readCsr 17 = s.crcTxt.setWidth 32 ∧ s.readCsr 18 = s.crcStart.setWidth 32 ∧
      s.readCsr 19 = s.crcEnd.setWidth 32 ∧ s.readCsr 20 = s.crcCtl.setWidth 32) ∧
    s.readCsr 23 ++ s.readCsr 22 = s.lastT ∧ s.readCsr 25 ++ s.readCsr 24 = s.cur.now ∧ s.readCsr 27 ++ s.readCsr 26 = s.tDead ∧
    ∀ n : Nat, (28 ≤ n ∨ n = 0 → s.readCsr n = 0) ∧
      (s.cur.host = .rdCsr n → s.hostPhase = .next { s with out := { s.out with rdata := s.readCsr n } })

/-- While busy the host phase changes nothing but `OVR` and the read data, and never clears `OVR` (R290, R292). -/
def Obligations.BusyHostPhase : Prop :=
  ∀ s : State, s.busy = true →
    ∃ t, s.hostPhase = .next t ∧ t = { s with ovr := t.ovr, out := { s.out with rdata := t.out.rdata } } ∧
      (s.ovr = true → t.ovr = true)

/-! ## The step -/

/-- A step whose input writes a word to `CTRL` runs the instruction that word selects: the operation of its bits 3:0, and for
`TRANSACT` the command `CMD0`, `CMD1` and `XBUF[0 .. XLEN)` spell, or `TRANSACT` itself where they spell none. Quiescent, the step is its
effect and the outputs; busy, the refusal, then the engine's step (R41, R290, R292, R293). That a command is fetched from its descriptor
is the model's: DESIGN CHOICE, log 11. -/
def Obligations.StepRunsOperation : Prop :=
  ∀ (s : State) (c : Input) (rest : List Input) (v : Word), s.inputs = c :: rest → c.rst = false → c.host = .wrCsr 0 v →
    let r := { s with cur := c, inputs := rest, out := { s.out with tx := none, rdata := 0 } }
    let spelled := decodeCommand (Descriptor.ofRegs s.cmd0 s.cmd1) (s.readBytes .xb 0 (s.cmd1.extractLsb' 24 8).toNat)
    ∃ i : Instr, (v.extractLsb' 0 4 ≠ 1 → i = decodeOp v) ∧
      (v.extractLsb' 0 4 = 1 → (∀ j, spelled = .ok j → i = j) ∧ (∀ e, spelled = .error e → i = .transact)) ∧
      (s.busy = false → ∃ t, exec i r = .next t ∧ step s = .next t.drive) ∧
      (s.busy = true →
        exec i r = .next { r with ovr := true } ∧
          step s = andThen (State.enginePhase { r with ovr := true } s.state) fun u => .next u.drive)

/-- The outputs of a step that is no reset step are those of the state it leaves, its read data is what the host phase read in the state
it began in, else 0, and a byte is handed over only in `CommandSent` (R59, R290 step 4, R340). Both R79 and R292 make a buffer read out
of range while busy read 0 (log 7). That a read of `STATUS` shows its `IRQ` bit as it is before the engine phase, and not as
`out.irq_o` after the step, to which R42 and R340 equate it, is the model's inference: DEDUCED, log 19. -/
def Obligations.StepOutputs : Prop :=
  ∀ s t : State, step s = .next t → t.cur.rst = false →
    t.out.breakO = t.breakO ∧ t.out.framingO = t.framing ∧ (t.out.irqO = true ↔ t.done = true ∧ t.cfg.getLsbD 12 = true) ∧
    (∀ lb, t.out.tx = some lb →
      s.state = .commandSent ∧ t.cur.txReady = true ∧ s.txPtr < s.txLen ∧ lb = lineByte .ascii7E1 (s.read .tx s.txPtr.toNat)) ∧
    t.out.rdata =
      match t.cur.host with
      | .rdCsr n => State.readCsr { s with cur := t.cur } n
      | .rdBuf sp i => if i.toNat < s.size sp ∧ s.busy = false then (s.read sp i.toNat).setWidth 32 else 0
      | .idle | .wrCsr _ _ | .wrBuf _ _ _ => 0

/-- A step with `rst_i` asserted (R61, R62): every register to its reset value, the outputs of a reset step, the buffers kept. -/
def Obligations.ResetStep : Prop :=
  ∀ (s : State) (c : Input) (rest : List Input), s.inputs = c :: rest → c.rst = true →
    step s = .next
      { params := s.params, state := .idle, txLen := 0, txPtr := 0, rxLen := 0, rxNeed := 0, t0 := 0, tDead := 0, tLast := 0
        retryCnt := 0, err := .noError, terr := 0, payStart := 0, payEnd := 0, fmt := .ascii7E1, crcPresent := false
        framing := .ascii7E1, breakO := false, lastValid := false, lastAddr := 0, lastT := 0, done := false, ovr := false
        cfg := 0x00000603, cmd0 := 0, cmd1 := 0, tOvr := 0
        txCap := BitVec.ofNat 16 s.params.txbufSize, rxCap := BitVec.ofNat 16 s.params.rxbufSize, abortLo := 0, abortHi := 0
        crcVal := 0, crcTxt := 0, crcStart := 0, crcEnd := 0, crcCtl := 0, txbuf := s.txbuf, rxbuf := s.rxbuf, xbuf := s.xbuf
        inputs := rest, envIdx := s.envIdx, cur := c
        out := { breakO := false, framingO := .ascii7E1, tx := none, irqO := false, rdata := 0 } }

/-- The state right after reset (R61), for any parameters: what the registers read, and that no buffer byte has a value of the model's
choosing (R62, log 5). That `TIME` (registers 24 and 25) reads 0 is the model's choice of the record in progress: DESIGN CHOICE, log 16;
reset does not define the timer (R372). -/
def Obligations.ResetState : Prop :=
  (∀ p : Params, (State.resetWith p).readCsr 1 = 0 ∧ (State.resetWith p).readCsr 2 = 0 ∧ (State.resetWith p).readCsr 3 = 0x00000603 ∧
    (State.resetWith p).readCsr 7 = (BitVec.ofNat 16 p.txbufSize).setWidth 32 ∧
    (State.resetWith p).readCsr 8 = (BitVec.ofNat 16 p.rxbufSize).setWidth 32 ∧
    (∀ n, n ≠ 3 → n ≠ 7 → n ≠ 8 → (State.resetWith p).readCsr n = 0) ∧ (State.resetWith p).needBreak false = true ∧
    ∀ sp i, (State.resetWith p).read sp i = Config.unwrittenByte sp i) ∧
  State.reset = State.resetWith Params.suggested

/-- Every step that is no reset step moves along the transition table (R312), and `Validating` and `Retry` last one step (R296). -/
def Obligations.TransitionRelation : Prop :=
  ∀ s t : State, step s = .next t → t.cur.rst = false → s.state.mayPrecede t.state = true

/-- Without a host access a quiescent state does not change, whatever is received (R260, R301). -/
def Obligations.QuiescentStays : Prop :=
  ∀ s t : State, step s = .next t → t.cur.rst = false → s.busy = false → t.cur.host = .idle →
    t = s.beside t ∧ t.ovr = s.ovr ∧ t.out.tx = none ∧ t.out.rdata = 0

/-- While busy, a step leaves the descriptor, the call parameters, the configuration, the CRC registers, the command and the extended
body (R82, R84, R298). -/
def Obligations.BusyKeepsTheCall : Prop :=
  ∀ s t : State, step s = .next t → t.cur.rst = false → s.busy = true →
    t.cmd0 = s.cmd0 ∧ t.cmd1 = s.cmd1 ∧ t.cfg = s.cfg ∧ t.tOvr = s.tOvr ∧ t.txCap = s.txCap ∧ t.rxCap = s.rxCap ∧
    t.abortLo = s.abortLo ∧ t.abortHi = s.abortHi ∧ t.crcVal = s.crcVal ∧ t.crcTxt = s.crcTxt ∧ t.crcStart = s.crcStart ∧
    t.crcEnd = s.crcEnd ∧ t.crcCtl = s.crcCtl ∧ t.params = s.params ∧ t.txLen = s.txLen ∧ t.fmt = s.fmt ∧ t.txbuf = s.txbuf ∧
    t.xbuf = s.xbuf ∧ (s.state ≠ .awaitingResponse → t.rxbuf = s.rxbuf)

/-- The break tracking changes only when a transaction succeeds or finally fails (R37, R308, R311). -/
def Obligations.BreakTrackingChanges : Prop :=
  ∀ s t : State, step s = .next t → t.cur.rst = false →
    ((t.lastAddr ≠ s.lastAddr ∨ t.lastT ≠ s.lastT) → s.state = .validating ∧ t.state = .success) ∧
    (t.lastValid ≠ s.lastValid → t.state = if t.lastValid = true then .success else .failed) ∧
    (s.busy = false → t.lastValid = s.lastValid)

/-- `OVR` is set only by a refused access (R32, R292) and cleared only by `CLEAR`, reset apart. That a buffer access out of range while
busy does not set it takes R79 against R292: DEDUCED, log 7. -/
def Obligations.OverrunIsSticky : Prop :=
  ∀ s t : State, step s = .next t → t.cur.rst = false →
    (s.ovr = true → t.ovr = false → s.busy = false ∧ ∃ v, t.cur.host = .wrCsr 0 v ∧ v.extractLsb' 0 4 = 8) ∧
    (s.ovr = false → (t.ovr = true ↔ s.busy = true ∧
      ((∃ n v, t.cur.host = .wrCsr n v ∧ (n = 0 ∨ csrMask n ≠ 0)) ∨
        (∃ sp i, (t.cur.host = .rdBuf sp i ∨ ∃ v, t.cur.host = .wrBuf sp i v) ∧ i.toNat < s.size sp))))

/-! ## The send side -/

/-- The decision to send a break (R297), its default in the reset value of `CFG`, and its consequences for a wildcard address and for
the first transaction after reset. The instants are samples of a monotone timer (R55; log 17 for others). -/
def Obligations.NeedBreakRule : Prop :=
  (∀ (s : State) (isRetry : Bool), s.lastT ≤ s.cur.now → (s.needBreak isRetry = true ↔
    (isRetry = true ∧ s.cfg.getLsbD 10 = true) ∨ s.cfg.getLsbD 9 = false ∨ s.lastValid = false ∨
      s.lastAddr ≠ s.cmd0.extractLsb' 0 8 ∨ s.params.tIdle < s.cur.now.toNat - s.lastT.toNat)) ∧
  (∀ (s : State) (isRetry : Bool), s.LastByAnswer → s.cmd0.extractLsb' 0 8 = 0x3F → s.needBreak isRetry = true) ∧
  ∀ (p : Params) (isRetry : Bool),
    (State.resetWith p).cfg.getLsbD 9 = true ∧ (State.resetWith p).cfg.getLsbD 10 = true ∧ (State.resetWith p).needBreak isRetry = true

/-- A step in `BreakSent` (R242, R302), for the monotone timer of R55 (log 17). A transport failure comes before the end of the break in
one step, as R242 lists them: DEDUCED, log 23 (R342 (3) read so as to agree). -/
def Obligations.BreakSentStep : Prop :=
  ∀ s t : State, step s = .next t → t.cur.rst = false → s.state = .breakSent →
    (s.pastDeadline t.cur.now → t = (s.beside t).afterAbort) ∧
    (¬s.pastDeadline t.cur.now →
      (∀ e, t.cur.txErr = some e → t = (s.beside t).afterAttemptFail .transport (0x80#8 ||| e.setWidth 8)) ∧
      (t.cur.txErr = none → s.t0 ≤ t.cur.now →
        (s.params.tBreakMin ≤ t.cur.now.toNat - s.t0.toNat →
          t = { s.beside t with breakO := false, t0 := t.cur.now, state := .markingWait }) ∧
        (t.cur.now.toNat - s.t0.toNat < s.params.tBreakMin → t = s.beside t)))

/-- A step in `MarkingWait` (R243, R303): no byte is handed over before `T_MARK` ticks have passed, for the monotone timer of
R55 (log 17). A transport failure comes before the end of the marking period in one step, as R243 lists them: DEDUCED, log 23 (R342 (3)
read so as to agree). -/
def Obligations.MarkingWaitStep : Prop :=
  ∀ s t : State, step s = .next t → t.cur.rst = false → s.state = .markingWait →
    (s.pastDeadline t.cur.now → t = (s.beside t).afterAbort) ∧
    (¬s.pastDeadline t.cur.now →
      (∀ e, t.cur.txErr = some e → t = (s.beside t).afterAttemptFail .transport (0x80#8 ||| e.setWidth 8)) ∧
      (t.cur.txErr = none → s.t0 ≤ t.cur.now →
        (s.params.tMark ≤ t.cur.now.toNat - s.t0.toNat → t = { s.beside t with txPtr := 0, state := .commandSent }) ∧
        (t.cur.now.toNat - s.t0.toNat < s.params.tMark → t = s.beside t))) ∧
    t.out.tx = none

/-- A step in `CommandSent` (R248, R250, R304): one byte a step in `TXBUF` order, then the wait for the response, its
deadline within 64 bits (U9, log 9). -/
def Obligations.CommandSentStep : Prop :=
  ∀ s t : State, step s = .next t → t.cur.rst = false → s.state = .commandSent →
    (s.pastDeadline t.cur.now → t = (s.beside t).afterAbort ∧ t.out.tx = none) ∧
    (¬s.pastDeadline t.cur.now →
      (∀ e, t.cur.txErr = some e →
        t = (s.beside t).afterAttemptFail .transport (0x80#8 ||| e.setWidth 8) ∧ t.out.tx = none) ∧
      (t.cur.txErr = none → s.txPtr < s.txLen →
        (t.cur.txReady = true →
          t = { s.beside t with txPtr := s.txPtr + 1 } ∧ t.out.tx = some (lineByte .ascii7E1 (s.read .tx s.txPtr.toNat))) ∧
        (t.cur.txReady = false → t = s.beside t ∧ t.out.tx = none)) ∧
      (t.cur.txErr = none → ¬s.txPtr < s.txLen →
        t.out.tx = none ∧ (t.cur.txDone = false → t = s.beside t) ∧
        (t.cur.txDone = true → t.cur.now.toNat + tResp s.params s.tOvr s.descriptor < 2 ^ 64 →
          t = { s.beside t with
            framing := respFmt s.descriptor, rxLen := 0, rxNeed := 0
            tDead := t.cur.now + BitVec.ofNat 64 (tResp s.params s.tOvr s.descriptor)
            tLast := t.cur.now, state := .awaitingResponse })))

/-! ## The receive side -/

/-- A deadline beats a byte of the same step: the overall deadline, then the response deadline and the inter-byte timeout; the byte is
dropped (R263, R264, R270, R313). -/
def Obligations.DeadlineBeatsByte : Prop :=
  ∀ s t : State, step s = .next t → t.cur.rst = false → s.state = .awaitingResponse →
    (s.pastDeadline t.cur.now → t = (s.beside t).afterAbort) ∧
    (¬s.pastDeadline t.cur.now → s.responseLate t.cur.now → t = (s.beside t).afterAttemptFail .timeout 0)

/-- Receive errors and silence (R265, R270): the offending byte is not stored. -/
def Obligations.ReceiveErrors : Prop :=
  ∀ s t : State, step s = .next t → t.cur.rst = false → s.state = .awaitingResponse → ¬s.pastDeadline t.cur.now →
    ¬s.responseLate t.cur.now →
    (∀ e, t.cur.rx = .err e → t = (s.beside t).afterAttemptFail .transport (0x80#8 ||| e.setWidth 8)) ∧
    (∀ lb, t.cur.rx = .byte lb → charOf s.framing lb = none → t = (s.beside t).afterAttemptFail .transport 0x01) ∧
    (t.cur.rx = .nothing → t = s.beside t)

/-- A character received in `ASCII-7E1` framing is stored, and `LF` or a full buffer ends the frame (R266, R267, R305). -/
def Obligations.AsciiByteStored : Prop :=
  ∀ (s t : State) (lb c : Byte), step s = .next t → t.cur.rst = false → s.state = .awaitingResponse → ¬s.pastDeadline t.cur.now →
    ¬s.responseLate t.cur.now → s.framing = .ascii7E1 → t.cur.rx = .byte lb → charOf .ascii7E1 lb = some c →
    t.read .rx s.rxLen.toNat = c ∧ (∀ sp i, sp ≠ .rx ∨ i ≠ s.rxLen.toNat → t.read sp i = s.read sp i) ∧
      t = { s.beside t with
        rxbuf := t.rxbuf, rxLen := s.rxLen + 1, tLast := t.cur.now
        state := if c = 0x0A#8 ∨ s.rxLen + 1 = s.rxCap then .validating else .awaitingResponse }

/-- A byte received in `Binary-8N1` framing is stored; the third byte gives the length of the frame, which ends the frame, or the
attempt when it cannot fit (R266, R268, R269). -/
def Obligations.BinaryByteStored : Prop :=
  ∀ (s t : State) (lb : Byte), step s = .next t → t.cur.rst = false → s.state = .awaitingResponse → ¬s.pastDeadline t.cur.now →
    ¬s.responseLate t.cur.now → s.framing = .binary8N1 → t.cur.rx = .byte lb →
    let need : BitVec 17 :=
      if s.rxLen + 1 = 3 then 6 + ((t.read .rx 2) ++ (t.read .rx 1) : BitVec 16).setWidth 17 else s.rxNeed
    let stored := { s.beside t with rxbuf := t.rxbuf, rxLen := s.rxLen + 1, tLast := t.cur.now, rxNeed := need }
    t.read .rx s.rxLen.toNat = lb ∧ (∀ sp i, sp ≠ .rx ∨ i ≠ s.rxLen.toNat → t.read sp i = s.read sp i) ∧
      t =
        if s.rxLen + 1 = 3 ∧ s.rxCap.toNat < need.toNat then stored.afterAttemptFail .capacity 0
        else if need ≠ 0 ∧ (s.rxLen + 1).toNat = need.toNat then { stored with framing := .ascii7E1, state := .validating }
        else if s.rxLen + 1 = s.rxCap then stored.afterAttemptFail .capacity 0
        else stored

/-- The checks of a frame, in their order: the first that fails ends the attempt with its error (R272, R274 to R279). -/
def Obligations.ValidationFailures : Prop :=
  ∀ s t : State, step s = .next t → t.cur.rst = false → s.state = .validating →
    let n := s.rxLen.toNat
    let ends := 3 ≤ n ∧ s.read .rx (n - 2) = 0x0D#8 ∧ s.read .rx (n - 1) = 0x0A#8
    let text : CrcText := ⟨s.read .rx (n - 5), s.read .rx (n - 4), s.read .rx (n - 3)⟩
    (addrOk s.descriptor (s.read .rx 0) = false → t = (s.beside t).afterAttemptFail .addressMismatch 0) ∧
    (addrOk s.descriptor (s.read .rx 0) = true → s.fmt = .ascii7E1 →
      (¬ends → t = (s.beside t).afterAttemptFail .terminator 0) ∧
      (ends → crcMode s.descriptor = .ascii →
        (n < 6 ∨ dec3 text = none → t = (s.beside t).afterAttemptFail .crcDecode 0) ∧
        (6 ≤ n → ∀ v, dec3 text = some v → crc16 (s.readBytes .rx 0 (n - 5)) ≠ v →
          t = (s.beside t).afterAttemptFail .crcMismatch 0))) ∧
    (addrOk s.descriptor (s.read .rx 0) = true → s.fmt = .binary8N1 →
      crc16 (s.readBytes .rx 0 (n - 2)) ≠ s.read .rx (n - 1) ++ s.read .rx (n - 2) →
        t = (s.beside t).afterAttemptFail .crcMismatch 0)

/-- A frame that passes every check: the payload boundary and the entry to `Success` (R280, R307, R308). -/
def Obligations.ValidationSuccess : Prop :=
  ∀ s t : State, step s = .next t → t.cur.rst = false → s.state = .validating →
    let n := s.rxLen.toNat
    addrOk s.descriptor (s.read .rx 0) = true →
    (s.fmt = .ascii7E1 → 3 ≤ n → s.read .rx (n - 2) = 0x0D#8 → s.read .rx (n - 1) = 0x0A#8 →
      (crcMode s.descriptor = .none → t = (s.beside t).afterSuccess (n - 2) false) ∧
      (crcMode s.descriptor = .ascii → 6 ≤ n →
        dec3 ⟨s.read .rx (n - 5), s.read .rx (n - 4), s.read .rx (n - 3)⟩ = some (crc16 (s.readBytes .rx 0 (n - 5))) →
        t = (s.beside t).afterSuccess (n - 5) true)) ∧
    (s.fmt = .binary8N1 → crcMode s.descriptor = .binary →
      crc16 (s.readBytes .rx 0 (n - 2)) = s.read .rx (n - 1) ++ s.read .rx (n - 2) →
      t = (s.beside t).afterSuccess (n - 2) true)

/-- The `Retry` step (R309, R310, R311): a new attempt while the error may be retried and the bound is not reached, else `Failed` with
the last error kept. -/
def Obligations.RetryStep : Prop :=
  ∀ s t : State, step s = .next t → t.cur.rst = false → s.state = .retry →
    (s.mayRetry ∧ s.retryCnt < s.cfg.extractLsb' 0 8 →
      t = State.afterStart { s.beside t with retryCnt := s.retryCnt + 1 } true) ∧
    (¬(s.mayRetry ∧ s.retryCnt < s.cfg.extractLsb' 0 8) →
      t = { s.beside t with lastValid := false, state := .failed, done := true })

/-! ## The invariant -/

/-- Every instance within the constraints of R8 has the invariant right after reset. -/
def Obligations.InvAtReset : Prop :=
  State.reset.Inv ∧ ∀ p : Params, p.Valid → (State.resetWith p).Inv

/-- Every step keeps the invariant (R23, as far as log 10 says; R77, R84). -/
def Obligations.InvKept : Prop :=
  ∀ s t : State, s.Inv → step s = .next t → t.Inv

/-- From a state with the invariant a step never stops: the engine's buffer accesses are in range (R77, R315). -/
def Obligations.InvNeverStops : Prop :=
  ∀ s : State, s.Inv → ∃ t, step s = .next t

/-! ## The environment's premises -/

/-- A host that keeps its hands off a busy engine (R377, a premise of R60 (e)) never makes it set `OVR` (R32), changes no register and no
buffer byte of the call, and reads no buffer. -/
def Obligations.HandsOffHost : Prop :=
  ∀ e : EnvStep, step e.before = .next e.after → e.after.cur.rst = false → e.handsOff = true →
    (e.before.ovr = false → e.after.ovr = false) ∧
    (e.before.busy = true →
      e.after.ovr = e.before.ovr ∧
        e.before.latch.hostPhase =
          .next { e.before.latch with out := { e.before.latch.out with rdata := e.after.out.rdata } })
end

