-- ==== Sys2Proof/Laws/State.lean ====
section
/-! SUPPORT. What each named update of the state does to each field: one lemma for a field it sets, one conjunction for the fields it
leaves (each conjunct a rewrite of its own). All true by definition, so that no proof unfolds a record update. -/

namespace Sys2Proof.Machine

@[simp] theorem recordError_err (s : State) (e : ErrKind) (sub : Byte) : (s.recordError e sub).err = e := rfl
@[simp] theorem recordError_terr (s : State) (e : ErrKind) (sub : Byte) : (s.recordError e sub).terr = sub := rfl
@[simp] theorem recordError_frame (s : State) (e : ErrKind) (sub : Byte) :
    (s.recordError e sub).params = s.params ∧ (s.recordError e sub).state = s.state ∧ (s.recordError e sub).txLen = s.txLen ∧
    (s.recordError e sub).txPtr = s.txPtr ∧ (s.recordError e sub).rxLen = s.rxLen ∧ (s.recordError e sub).rxNeed = s.rxNeed ∧
    (s.recordError e sub).t0 = s.t0 ∧ (s.recordError e sub).tDead = s.tDead ∧ (s.recordError e sub).tLast = s.tLast ∧
    (s.recordError e sub).retryCnt = s.retryCnt ∧ (s.recordError e sub).payStart = s.payStart ∧
    (s.recordError e sub).payEnd = s.payEnd ∧ (s.recordError e sub).fmt = s.fmt ∧
    (s.recordError e sub).crcPresent = s.crcPresent ∧ (s.recordError e sub).framing = s.framing ∧
    (s.recordError e sub).breakO = s.breakO ∧ (s.recordError e sub).lastValid = s.lastValid ∧
    (s.recordError e sub).lastAddr = s.lastAddr ∧ (s.recordError e sub).lastT = s.lastT ∧ (s.recordError e sub).done = s.done ∧
    (s.recordError e sub).ovr = s.ovr ∧ (s.recordError e sub).cfg = s.cfg ∧ (s.recordError e sub).cmd0 = s.cmd0 ∧
    (s.recordError e sub).cmd1 = s.cmd1 ∧ (s.recordError e sub).tOvr = s.tOvr ∧ (s.recordError e sub).txCap = s.txCap ∧
    (s.recordError e sub).rxCap = s.rxCap ∧ (s.recordError e sub).abortLo = s.abortLo ∧
    (s.recordError e sub).abortHi = s.abortHi ∧ (s.recordError e sub).crcVal = s.crcVal ∧
    (s.recordError e sub).crcTxt = s.crcTxt ∧ (s.recordError e sub).crcStart = s.crcStart ∧
    (s.recordError e sub).crcEnd = s.crcEnd ∧ (s.recordError e sub).crcCtl = s.crcCtl ∧ (s.recordError e sub).txbuf = s.txbuf ∧
    (s.recordError e sub).rxbuf = s.rxbuf ∧ (s.recordError e sub).xbuf = s.xbuf ∧ (s.recordError e sub).inputs = s.inputs ∧
    (s.recordError e sub).envIdx = s.envIdx ∧ (s.recordError e sub).cur = s.cur ∧ (s.recordError e sub).out = s.out :=
  by and_intros <;> rfl

@[simp] theorem raiseSync_err (s : State) (e : ErrKind) : (s.raiseSync e).err = e := rfl
@[simp] theorem raiseSync_terr (s : State) (e : ErrKind) : (s.raiseSync e).terr = 0 := rfl
@[simp] theorem raiseSync_done (s : State) (e : ErrKind) : (s.raiseSync e).done = true := rfl
@[simp] theorem raiseSync_frame (s : State) (e : ErrKind) :
    (s.raiseSync e).params = s.params ∧ (s.raiseSync e).state = s.state ∧ (s.raiseSync e).txLen = s.txLen ∧
    (s.raiseSync e).txPtr = s.txPtr ∧ (s.raiseSync e).rxLen = s.rxLen ∧ (s.raiseSync e).rxNeed = s.rxNeed ∧
    (s.raiseSync e).t0 = s.t0 ∧ (s.raiseSync e).tDead = s.tDead ∧ (s.raiseSync e).tLast = s.tLast ∧
    (s.raiseSync e).retryCnt = s.retryCnt ∧ (s.raiseSync e).payStart = s.payStart ∧ (s.raiseSync e).payEnd = s.payEnd ∧
    (s.raiseSync e).fmt = s.fmt ∧ (s.raiseSync e).crcPresent = s.crcPresent ∧ (s.raiseSync e).framing = s.framing ∧
    (s.raiseSync e).breakO = s.breakO ∧ (s.raiseSync e).lastValid = s.lastValid ∧ (s.raiseSync e).lastAddr = s.lastAddr ∧
    (s.raiseSync e).lastT = s.lastT ∧ (s.raiseSync e).ovr = s.ovr ∧ (s.raiseSync e).cfg = s.cfg ∧
    (s.raiseSync e).cmd0 = s.cmd0 ∧ (s.raiseSync e).cmd1 = s.cmd1 ∧ (s.raiseSync e).tOvr = s.tOvr ∧
    (s.raiseSync e).txCap = s.txCap ∧ (s.raiseSync e).rxCap = s.rxCap ∧ (s.raiseSync e).abortLo = s.abortLo ∧
    (s.raiseSync e).abortHi = s.abortHi ∧ (s.raiseSync e).crcVal = s.crcVal ∧ (s.raiseSync e).crcTxt = s.crcTxt ∧
    (s.raiseSync e).crcStart = s.crcStart ∧ (s.raiseSync e).crcEnd = s.crcEnd ∧ (s.raiseSync e).crcCtl = s.crcCtl ∧
    (s.raiseSync e).txbuf = s.txbuf ∧ (s.raiseSync e).rxbuf = s.rxbuf ∧ (s.raiseSync e).xbuf = s.xbuf ∧
    (s.raiseSync e).inputs = s.inputs ∧ (s.raiseSync e).envIdx = s.envIdx ∧ (s.raiseSync e).cur = s.cur ∧
    (s.raiseSync e).out = s.out :=
  by and_intros <;> rfl

@[simp] theorem raiseConstruct_err (s : State) (e : ErrKind) : (s.raiseConstruct e).err = e := rfl
@[simp] theorem raiseConstruct_terr (s : State) (e : ErrKind) : (s.raiseConstruct e).terr = 0 := rfl
@[simp] theorem raiseConstruct_txLen (s : State) (e : ErrKind) : (s.raiseConstruct e).txLen = 0 := rfl
@[simp] theorem raiseConstruct_state (s : State) (e : ErrKind) : (s.raiseConstruct e).state = .failed := rfl
@[simp] theorem raiseConstruct_done (s : State) (e : ErrKind) : (s.raiseConstruct e).done = true := rfl
@[simp] theorem raiseConstruct_frame (s : State) (e : ErrKind) :
    (s.raiseConstruct e).params = s.params ∧ (s.raiseConstruct e).txPtr = s.txPtr ∧ (s.raiseConstruct e).rxLen = s.rxLen ∧
    (s.raiseConstruct e).rxNeed = s.rxNeed ∧ (s.raiseConstruct e).t0 = s.t0 ∧ (s.raiseConstruct e).tDead = s.tDead ∧
    (s.raiseConstruct e).tLast = s.tLast ∧ (s.raiseConstruct e).retryCnt = s.retryCnt ∧
    (s.raiseConstruct e).payStart = s.payStart ∧ (s.raiseConstruct e).payEnd = s.payEnd ∧ (s.raiseConstruct e).fmt = s.fmt ∧
    (s.raiseConstruct e).crcPresent = s.crcPresent ∧ (s.raiseConstruct e).framing = s.framing ∧
    (s.raiseConstruct e).breakO = s.breakO ∧ (s.raiseConstruct e).lastValid = s.lastValid ∧
    (s.raiseConstruct e).lastAddr = s.lastAddr ∧ (s.raiseConstruct e).lastT = s.lastT ∧ (s.raiseConstruct e).ovr = s.ovr ∧
    (s.raiseConstruct e).cfg = s.cfg ∧ (s.raiseConstruct e).cmd0 = s.cmd0 ∧ (s.raiseConstruct e).cmd1 = s.cmd1 ∧
    (s.raiseConstruct e).tOvr = s.tOvr ∧ (s.raiseConstruct e).txCap = s.txCap ∧ (s.raiseConstruct e).rxCap = s.rxCap ∧
    (s.raiseConstruct e).abortLo = s.abortLo ∧ (s.raiseConstruct e).abortHi = s.abortHi ∧
    (s.raiseConstruct e).crcVal = s.crcVal ∧ (s.raiseConstruct e).crcTxt = s.crcTxt ∧
    (s.raiseConstruct e).crcStart = s.crcStart ∧ (s.raiseConstruct e).crcEnd = s.crcEnd ∧
    (s.raiseConstruct e).crcCtl = s.crcCtl ∧ (s.raiseConstruct e).txbuf = s.txbuf ∧ (s.raiseConstruct e).rxbuf = s.rxbuf ∧
    (s.raiseConstruct e).xbuf = s.xbuf ∧ (s.raiseConstruct e).inputs = s.inputs ∧ (s.raiseConstruct e).envIdx = s.envIdx ∧
    (s.raiseConstruct e).cur = s.cur ∧ (s.raiseConstruct e).out = s.out :=
  by and_intros <;> rfl

@[simp] theorem attemptFail_err (s : State) (e : ErrKind) (sub : Byte) : (s.attemptFail e sub).err = e := rfl
@[simp] theorem attemptFail_terr (s : State) (e : ErrKind) (sub : Byte) : (s.attemptFail e sub).terr = sub := rfl
@[simp] theorem attemptFail_breakO (s : State) (e : ErrKind) (sub : Byte) : (s.attemptFail e sub).breakO = false := rfl
@[simp] theorem attemptFail_framing (s : State) (e : ErrKind) (sub : Byte) : (s.attemptFail e sub).framing = .ascii7E1 := rfl
@[simp] theorem attemptFail_state (s : State) (e : ErrKind) (sub : Byte) : (s.attemptFail e sub).state = .retry := rfl
@[simp] theorem attemptFail_frame (s : State) (e : ErrKind) (sub : Byte) :
    (s.attemptFail e sub).params = s.params ∧ (s.attemptFail e sub).txLen = s.txLen ∧ (s.attemptFail e sub).txPtr = s.txPtr ∧
    (s.attemptFail e sub).rxLen = s.rxLen ∧ (s.attemptFail e sub).rxNeed = s.rxNeed ∧ (s.attemptFail e sub).t0 = s.t0 ∧
    (s.attemptFail e sub).tDead = s.tDead ∧ (s.attemptFail e sub).tLast = s.tLast ∧
    (s.attemptFail e sub).retryCnt = s.retryCnt ∧ (s.attemptFail e sub).payStart = s.payStart ∧
    (s.attemptFail e sub).payEnd = s.payEnd ∧ (s.attemptFail e sub).fmt = s.fmt ∧
    (s.attemptFail e sub).crcPresent = s.crcPresent ∧ (s.attemptFail e sub).lastValid = s.lastValid ∧
    (s.attemptFail e sub).lastAddr = s.lastAddr ∧ (s.attemptFail e sub).lastT = s.lastT ∧ (s.attemptFail e sub).done = s.done ∧
    (s.attemptFail e sub).ovr = s.ovr ∧ (s.attemptFail e sub).cfg = s.cfg ∧ (s.attemptFail e sub).cmd0 = s.cmd0 ∧
    (s.attemptFail e sub).cmd1 = s.cmd1 ∧ (s.attemptFail e sub).tOvr = s.tOvr ∧ (s.attemptFail e sub).txCap = s.txCap ∧
    (s.attemptFail e sub).rxCap = s.rxCap ∧ (s.attemptFail e sub).abortLo = s.abortLo ∧
    (s.attemptFail e sub).abortHi = s.abortHi ∧ (s.attemptFail e sub).crcVal = s.crcVal ∧
    (s.attemptFail e sub).crcTxt = s.crcTxt ∧ (s.attemptFail e sub).crcStart = s.crcStart ∧
    (s.attemptFail e sub).crcEnd = s.crcEnd ∧ (s.attemptFail e sub).crcCtl = s.crcCtl ∧ (s.attemptFail e sub).txbuf = s.txbuf ∧
    (s.attemptFail e sub).rxbuf = s.rxbuf ∧ (s.attemptFail e sub).xbuf = s.xbuf ∧ (s.attemptFail e sub).inputs = s.inputs ∧
    (s.attemptFail e sub).envIdx = s.envIdx ∧ (s.attemptFail e sub).cur = s.cur ∧ (s.attemptFail e sub).out = s.out :=
  by and_intros <;> rfl

@[simp] theorem enterFailed_lastValid (s : State) : (s.enterFailed).lastValid = false := rfl
@[simp] theorem enterFailed_state (s : State) : (s.enterFailed).state = .failed := rfl
@[simp] theorem enterFailed_done (s : State) : (s.enterFailed).done = true := rfl
@[simp] theorem enterFailed_frame (s : State) :
    (s.enterFailed).params = s.params ∧ (s.enterFailed).txLen = s.txLen ∧ (s.enterFailed).txPtr = s.txPtr ∧
    (s.enterFailed).rxLen = s.rxLen ∧ (s.enterFailed).rxNeed = s.rxNeed ∧ (s.enterFailed).t0 = s.t0 ∧
    (s.enterFailed).tDead = s.tDead ∧ (s.enterFailed).tLast = s.tLast ∧ (s.enterFailed).retryCnt = s.retryCnt ∧
    (s.enterFailed).err = s.err ∧ (s.enterFailed).terr = s.terr ∧ (s.enterFailed).payStart = s.payStart ∧
    (s.enterFailed).payEnd = s.payEnd ∧ (s.enterFailed).fmt = s.fmt ∧ (s.enterFailed).crcPresent = s.crcPresent ∧
    (s.enterFailed).framing = s.framing ∧ (s.enterFailed).breakO = s.breakO ∧ (s.enterFailed).lastAddr = s.lastAddr ∧
    (s.enterFailed).lastT = s.lastT ∧ (s.enterFailed).ovr = s.ovr ∧ (s.enterFailed).cfg = s.cfg ∧
    (s.enterFailed).cmd0 = s.cmd0 ∧ (s.enterFailed).cmd1 = s.cmd1 ∧ (s.enterFailed).tOvr = s.tOvr ∧
    (s.enterFailed).txCap = s.txCap ∧ (s.enterFailed).rxCap = s.rxCap ∧ (s.enterFailed).abortLo = s.abortLo ∧
    (s.enterFailed).abortHi = s.abortHi ∧ (s.enterFailed).crcVal = s.crcVal ∧ (s.enterFailed).crcTxt = s.crcTxt ∧
    (s.enterFailed).crcStart = s.crcStart ∧ (s.enterFailed).crcEnd = s.crcEnd ∧ (s.enterFailed).crcCtl = s.crcCtl ∧
    (s.enterFailed).txbuf = s.txbuf ∧ (s.enterFailed).rxbuf = s.rxbuf ∧ (s.enterFailed).xbuf = s.xbuf ∧
    (s.enterFailed).inputs = s.inputs ∧ (s.enterFailed).envIdx = s.envIdx ∧ (s.enterFailed).cur = s.cur ∧
    (s.enterFailed).out = s.out :=
  by and_intros <;> rfl

@[simp] theorem failFinal_err (s : State) (e : ErrKind) : (s.failFinal e).err = e := rfl
@[simp] theorem failFinal_terr (s : State) (e : ErrKind) : (s.failFinal e).terr = 0 := rfl
@[simp] theorem failFinal_breakO (s : State) (e : ErrKind) : (s.failFinal e).breakO = false := rfl
@[simp] theorem failFinal_framing (s : State) (e : ErrKind) : (s.failFinal e).framing = .ascii7E1 := rfl
@[simp] theorem failFinal_lastValid (s : State) (e : ErrKind) : (s.failFinal e).lastValid = false := rfl
@[simp] theorem failFinal_state (s : State) (e : ErrKind) : (s.failFinal e).state = .failed := rfl
@[simp] theorem failFinal_done (s : State) (e : ErrKind) : (s.failFinal e).done = true := rfl
@[simp] theorem failFinal_frame (s : State) (e : ErrKind) :
    (s.failFinal e).params = s.params ∧ (s.failFinal e).txLen = s.txLen ∧ (s.failFinal e).txPtr = s.txPtr ∧
    (s.failFinal e).rxLen = s.rxLen ∧ (s.failFinal e).rxNeed = s.rxNeed ∧ (s.failFinal e).t0 = s.t0 ∧
    (s.failFinal e).tDead = s.tDead ∧ (s.failFinal e).tLast = s.tLast ∧ (s.failFinal e).retryCnt = s.retryCnt ∧
    (s.failFinal e).payStart = s.payStart ∧ (s.failFinal e).payEnd = s.payEnd ∧ (s.failFinal e).fmt = s.fmt ∧
    (s.failFinal e).crcPresent = s.crcPresent ∧ (s.failFinal e).lastAddr = s.lastAddr ∧ (s.failFinal e).lastT = s.lastT ∧
    (s.failFinal e).ovr = s.ovr ∧ (s.failFinal e).cfg = s.cfg ∧ (s.failFinal e).cmd0 = s.cmd0 ∧ (s.failFinal e).cmd1 = s.cmd1 ∧
    (s.failFinal e).tOvr = s.tOvr ∧ (s.failFinal e).txCap = s.txCap ∧ (s.failFinal e).rxCap = s.rxCap ∧
    (s.failFinal e).abortLo = s.abortLo ∧ (s.failFinal e).abortHi = s.abortHi ∧ (s.failFinal e).crcVal = s.crcVal ∧
    (s.failFinal e).crcTxt = s.crcTxt ∧ (s.failFinal e).crcStart = s.crcStart ∧ (s.failFinal e).crcEnd = s.crcEnd ∧
    (s.failFinal e).crcCtl = s.crcCtl ∧ (s.failFinal e).txbuf = s.txbuf ∧ (s.failFinal e).rxbuf = s.rxbuf ∧
    (s.failFinal e).xbuf = s.xbuf ∧ (s.failFinal e).inputs = s.inputs ∧ (s.failFinal e).envIdx = s.envIdx ∧
    (s.failFinal e).cur = s.cur ∧ (s.failFinal e).out = s.out :=
  by and_intros <;> rfl

@[simp] theorem accepted_done (s : State) : (s.accepted).done = false := rfl
@[simp] theorem accepted_state (s : State) : (s.accepted).state = .idle := rfl
@[simp] theorem accepted_err (s : State) : (s.accepted).err = .noError := rfl
@[simp] theorem accepted_terr (s : State) : (s.accepted).terr = 0 := rfl
@[simp] theorem accepted_frame (s : State) :
    (s.accepted).params = s.params ∧ (s.accepted).txLen = s.txLen ∧ (s.accepted).txPtr = s.txPtr ∧
    (s.accepted).rxLen = s.rxLen ∧ (s.accepted).rxNeed = s.rxNeed ∧ (s.accepted).t0 = s.t0 ∧ (s.accepted).tDead = s.tDead ∧
    (s.accepted).tLast = s.tLast ∧ (s.accepted).retryCnt = s.retryCnt ∧ (s.accepted).payStart = s.payStart ∧
    (s.accepted).payEnd = s.payEnd ∧ (s.accepted).fmt = s.fmt ∧ (s.accepted).crcPresent = s.crcPresent ∧
    (s.accepted).framing = s.framing ∧ (s.accepted).breakO = s.breakO ∧ (s.accepted).lastValid = s.lastValid ∧
    (s.accepted).lastAddr = s.lastAddr ∧ (s.accepted).lastT = s.lastT ∧ (s.accepted).ovr = s.ovr ∧ (s.accepted).cfg = s.cfg ∧
    (s.accepted).cmd0 = s.cmd0 ∧ (s.accepted).cmd1 = s.cmd1 ∧ (s.accepted).tOvr = s.tOvr ∧ (s.accepted).txCap = s.txCap ∧
    (s.accepted).rxCap = s.rxCap ∧ (s.accepted).abortLo = s.abortLo ∧ (s.accepted).abortHi = s.abortHi ∧
    (s.accepted).crcVal = s.crcVal ∧ (s.accepted).crcTxt = s.crcTxt ∧ (s.accepted).crcStart = s.crcStart ∧
    (s.accepted).crcEnd = s.crcEnd ∧ (s.accepted).crcCtl = s.crcCtl ∧ (s.accepted).txbuf = s.txbuf ∧
    (s.accepted).rxbuf = s.rxbuf ∧ (s.accepted).xbuf = s.xbuf ∧ (s.accepted).inputs = s.inputs ∧
    (s.accepted).envIdx = s.envIdx ∧ (s.accepted).cur = s.cur ∧ (s.accepted).out = s.out :=
  by and_intros <;> rfl

@[simp] theorem completed_err (s : State) : (s.completed).err = .noError := rfl
@[simp] theorem completed_done (s : State) : (s.completed).done = true := rfl
@[simp] theorem completed_frame (s : State) :
    (s.completed).params = s.params ∧ (s.completed).state = s.state ∧ (s.completed).txLen = s.txLen ∧
    (s.completed).txPtr = s.txPtr ∧ (s.completed).rxLen = s.rxLen ∧ (s.completed).rxNeed = s.rxNeed ∧ (s.completed).t0 = s.t0 ∧
    (s.completed).tDead = s.tDead ∧ (s.completed).tLast = s.tLast ∧ (s.completed).retryCnt = s.retryCnt ∧
    (s.completed).terr = s.terr ∧ (s.completed).payStart = s.payStart ∧ (s.completed).payEnd = s.payEnd ∧
    (s.completed).fmt = s.fmt ∧ (s.completed).crcPresent = s.crcPresent ∧ (s.completed).framing = s.framing ∧
    (s.completed).breakO = s.breakO ∧ (s.completed).lastValid = s.lastValid ∧ (s.completed).lastAddr = s.lastAddr ∧
    (s.completed).lastT = s.lastT ∧ (s.completed).ovr = s.ovr ∧ (s.completed).cfg = s.cfg ∧ (s.completed).cmd0 = s.cmd0 ∧
    (s.completed).cmd1 = s.cmd1 ∧ (s.completed).tOvr = s.tOvr ∧ (s.completed).txCap = s.txCap ∧ (s.completed).rxCap = s.rxCap ∧
    (s.completed).abortLo = s.abortLo ∧ (s.completed).abortHi = s.abortHi ∧ (s.completed).crcVal = s.crcVal ∧
    (s.completed).crcTxt = s.crcTxt ∧ (s.completed).crcStart = s.crcStart ∧ (s.completed).crcEnd = s.crcEnd ∧
    (s.completed).crcCtl = s.crcCtl ∧ (s.completed).txbuf = s.txbuf ∧ (s.completed).rxbuf = s.rxbuf ∧
    (s.completed).xbuf = s.xbuf ∧ (s.completed).inputs = s.inputs ∧ (s.completed).envIdx = s.envIdx ∧
    (s.completed).cur = s.cur ∧ (s.completed).out = s.out :=
  by and_intros <;> rfl

@[simp] theorem answer_out (s : State) (v : Word) : (s.answer v).out = { s.out with rdata := v } := rfl
@[simp] theorem answer_frame (s : State) (v : Word) :
    (s.answer v).params = s.params ∧ (s.answer v).state = s.state ∧ (s.answer v).txLen = s.txLen ∧
    (s.answer v).txPtr = s.txPtr ∧ (s.answer v).rxLen = s.rxLen ∧ (s.answer v).rxNeed = s.rxNeed ∧ (s.answer v).t0 = s.t0 ∧
    (s.answer v).tDead = s.tDead ∧ (s.answer v).tLast = s.tLast ∧ (s.answer v).retryCnt = s.retryCnt ∧
    (s.answer v).err = s.err ∧ (s.answer v).terr = s.terr ∧ (s.answer v).payStart = s.payStart ∧
    (s.answer v).payEnd = s.payEnd ∧ (s.answer v).fmt = s.fmt ∧ (s.answer v).crcPresent = s.crcPresent ∧
    (s.answer v).framing = s.framing ∧ (s.answer v).breakO = s.breakO ∧ (s.answer v).lastValid = s.lastValid ∧
    (s.answer v).lastAddr = s.lastAddr ∧ (s.answer v).lastT = s.lastT ∧ (s.answer v).done = s.done ∧ (s.answer v).ovr = s.ovr ∧
    (s.answer v).cfg = s.cfg ∧ (s.answer v).cmd0 = s.cmd0 ∧ (s.answer v).cmd1 = s.cmd1 ∧ (s.answer v).tOvr = s.tOvr ∧
    (s.answer v).txCap = s.txCap ∧ (s.answer v).rxCap = s.rxCap ∧ (s.answer v).abortLo = s.abortLo ∧
    (s.answer v).abortHi = s.abortHi ∧ (s.answer v).crcVal = s.crcVal ∧ (s.answer v).crcTxt = s.crcTxt ∧
    (s.answer v).crcStart = s.crcStart ∧ (s.answer v).crcEnd = s.crcEnd ∧ (s.answer v).crcCtl = s.crcCtl ∧
    (s.answer v).txbuf = s.txbuf ∧ (s.answer v).rxbuf = s.rxbuf ∧ (s.answer v).xbuf = s.xbuf ∧ (s.answer v).inputs = s.inputs ∧
    (s.answer v).envIdx = s.envIdx ∧ (s.answer v).cur = s.cur :=
  by and_intros <;> rfl

@[simp] theorem refuse_ovr (s : State) : (s.refuse).ovr = true := rfl
@[simp] theorem refuse_frame (s : State) :
    (s.refuse).params = s.params ∧ (s.refuse).state = s.state ∧ (s.refuse).txLen = s.txLen ∧ (s.refuse).txPtr = s.txPtr ∧
    (s.refuse).rxLen = s.rxLen ∧ (s.refuse).rxNeed = s.rxNeed ∧ (s.refuse).t0 = s.t0 ∧ (s.refuse).tDead = s.tDead ∧
    (s.refuse).tLast = s.tLast ∧ (s.refuse).retryCnt = s.retryCnt ∧ (s.refuse).err = s.err ∧ (s.refuse).terr = s.terr ∧
    (s.refuse).payStart = s.payStart ∧ (s.refuse).payEnd = s.payEnd ∧ (s.refuse).fmt = s.fmt ∧
    (s.refuse).crcPresent = s.crcPresent ∧ (s.refuse).framing = s.framing ∧ (s.refuse).breakO = s.breakO ∧
    (s.refuse).lastValid = s.lastValid ∧ (s.refuse).lastAddr = s.lastAddr ∧ (s.refuse).lastT = s.lastT ∧
    (s.refuse).done = s.done ∧ (s.refuse).cfg = s.cfg ∧ (s.refuse).cmd0 = s.cmd0 ∧ (s.refuse).cmd1 = s.cmd1 ∧
    (s.refuse).tOvr = s.tOvr ∧ (s.refuse).txCap = s.txCap ∧ (s.refuse).rxCap = s.rxCap ∧ (s.refuse).abortLo = s.abortLo ∧
    (s.refuse).abortHi = s.abortHi ∧ (s.refuse).crcVal = s.crcVal ∧ (s.refuse).crcTxt = s.crcTxt ∧
    (s.refuse).crcStart = s.crcStart ∧ (s.refuse).crcEnd = s.crcEnd ∧ (s.refuse).crcCtl = s.crcCtl ∧
    (s.refuse).txbuf = s.txbuf ∧ (s.refuse).rxbuf = s.rxbuf ∧ (s.refuse).xbuf = s.xbuf ∧ (s.refuse).inputs = s.inputs ∧
    (s.refuse).envIdx = s.envIdx ∧ (s.refuse).cur = s.cur ∧ (s.refuse).out = s.out :=
  by and_intros <;> rfl

@[simp] theorem quietOutputs_out (s : State) : (s.quietOutputs).out = { s.out with tx := none, rdata := 0 } := rfl
@[simp] theorem quietOutputs_frame (s : State) :
    (s.quietOutputs).params = s.params ∧ (s.quietOutputs).state = s.state ∧ (s.quietOutputs).txLen = s.txLen ∧
    (s.quietOutputs).txPtr = s.txPtr ∧ (s.quietOutputs).rxLen = s.rxLen ∧ (s.quietOutputs).rxNeed = s.rxNeed ∧
    (s.quietOutputs).t0 = s.t0 ∧ (s.quietOutputs).tDead = s.tDead ∧ (s.quietOutputs).tLast = s.tLast ∧
    (s.quietOutputs).retryCnt = s.retryCnt ∧ (s.quietOutputs).err = s.err ∧ (s.quietOutputs).terr = s.terr ∧
    (s.quietOutputs).payStart = s.payStart ∧ (s.quietOutputs).payEnd = s.payEnd ∧ (s.quietOutputs).fmt = s.fmt ∧
    (s.quietOutputs).crcPresent = s.crcPresent ∧ (s.quietOutputs).framing = s.framing ∧ (s.quietOutputs).breakO = s.breakO ∧
    (s.quietOutputs).lastValid = s.lastValid ∧ (s.quietOutputs).lastAddr = s.lastAddr ∧ (s.quietOutputs).lastT = s.lastT ∧
    (s.quietOutputs).done = s.done ∧ (s.quietOutputs).ovr = s.ovr ∧ (s.quietOutputs).cfg = s.cfg ∧
    (s.quietOutputs).cmd0 = s.cmd0 ∧ (s.quietOutputs).cmd1 = s.cmd1 ∧ (s.quietOutputs).tOvr = s.tOvr ∧
    (s.quietOutputs).txCap = s.txCap ∧ (s.quietOutputs).rxCap = s.rxCap ∧ (s.quietOutputs).abortLo = s.abortLo ∧
    (s.quietOutputs).abortHi = s.abortHi ∧ (s.quietOutputs).crcVal = s.crcVal ∧ (s.quietOutputs).crcTxt = s.crcTxt ∧
    (s.quietOutputs).crcStart = s.crcStart ∧ (s.quietOutputs).crcEnd = s.crcEnd ∧ (s.quietOutputs).crcCtl = s.crcCtl ∧
    (s.quietOutputs).txbuf = s.txbuf ∧ (s.quietOutputs).rxbuf = s.rxbuf ∧ (s.quietOutputs).xbuf = s.xbuf ∧
    (s.quietOutputs).inputs = s.inputs ∧ (s.quietOutputs).envIdx = s.envIdx ∧ (s.quietOutputs).cur = s.cur :=
  by and_intros <;> rfl

@[simp] theorem drive_out (s : State) : (s.drive).out = { s.out with breakO := s.breakO, framingO := s.framing, irqO := s.irq } := rfl
@[simp] theorem drive_frame (s : State) :
    (s.drive).params = s.params ∧ (s.drive).state = s.state ∧ (s.drive).txLen = s.txLen ∧ (s.drive).txPtr = s.txPtr ∧
    (s.drive).rxLen = s.rxLen ∧ (s.drive).rxNeed = s.rxNeed ∧ (s.drive).t0 = s.t0 ∧ (s.drive).tDead = s.tDead ∧
    (s.drive).tLast = s.tLast ∧ (s.drive).retryCnt = s.retryCnt ∧ (s.drive).err = s.err ∧ (s.drive).terr = s.terr ∧
    (s.drive).payStart = s.payStart ∧ (s.drive).payEnd = s.payEnd ∧ (s.drive).fmt = s.fmt ∧
    (s.drive).crcPresent = s.crcPresent ∧ (s.drive).framing = s.framing ∧ (s.drive).breakO = s.breakO ∧
    (s.drive).lastValid = s.lastValid ∧ (s.drive).lastAddr = s.lastAddr ∧ (s.drive).lastT = s.lastT ∧ (s.drive).done = s.done ∧
    (s.drive).ovr = s.ovr ∧ (s.drive).cfg = s.cfg ∧ (s.drive).cmd0 = s.cmd0 ∧ (s.drive).cmd1 = s.cmd1 ∧
    (s.drive).tOvr = s.tOvr ∧ (s.drive).txCap = s.txCap ∧ (s.drive).rxCap = s.rxCap ∧ (s.drive).abortLo = s.abortLo ∧
    (s.drive).abortHi = s.abortHi ∧ (s.drive).crcVal = s.crcVal ∧ (s.drive).crcTxt = s.crcTxt ∧
    (s.drive).crcStart = s.crcStart ∧ (s.drive).crcEnd = s.crcEnd ∧ (s.drive).crcCtl = s.crcCtl ∧ (s.drive).txbuf = s.txbuf ∧
    (s.drive).rxbuf = s.rxbuf ∧ (s.drive).xbuf = s.xbuf ∧ (s.drive).inputs = s.inputs ∧ (s.drive).envIdx = s.envIdx ∧
    (s.drive).cur = s.cur :=
  by and_intros <;> rfl

@[simp] theorem queueHost_inputs (s : State) (h : HostAccess) : (s.queueHost h).inputs = { Input.quiet s.cur.now with host := h } :: s.inputs := rfl
@[simp] theorem queueHost_frame (s : State) (h : HostAccess) :
    (s.queueHost h).params = s.params ∧ (s.queueHost h).state = s.state ∧ (s.queueHost h).txLen = s.txLen ∧
    (s.queueHost h).txPtr = s.txPtr ∧ (s.queueHost h).rxLen = s.rxLen ∧ (s.queueHost h).rxNeed = s.rxNeed ∧
    (s.queueHost h).t0 = s.t0 ∧ (s.queueHost h).tDead = s.tDead ∧ (s.queueHost h).tLast = s.tLast ∧
    (s.queueHost h).retryCnt = s.retryCnt ∧ (s.queueHost h).err = s.err ∧ (s.queueHost h).terr = s.terr ∧
    (s.queueHost h).payStart = s.payStart ∧ (s.queueHost h).payEnd = s.payEnd ∧ (s.queueHost h).fmt = s.fmt ∧
    (s.queueHost h).crcPresent = s.crcPresent ∧ (s.queueHost h).framing = s.framing ∧ (s.queueHost h).breakO = s.breakO ∧
    (s.queueHost h).lastValid = s.lastValid ∧ (s.queueHost h).lastAddr = s.lastAddr ∧ (s.queueHost h).lastT = s.lastT ∧
    (s.queueHost h).done = s.done ∧ (s.queueHost h).ovr = s.ovr ∧ (s.queueHost h).cfg = s.cfg ∧ (s.queueHost h).cmd0 = s.cmd0 ∧
    (s.queueHost h).cmd1 = s.cmd1 ∧ (s.queueHost h).tOvr = s.tOvr ∧ (s.queueHost h).txCap = s.txCap ∧
    (s.queueHost h).rxCap = s.rxCap ∧ (s.queueHost h).abortLo = s.abortLo ∧ (s.queueHost h).abortHi = s.abortHi ∧
    (s.queueHost h).crcVal = s.crcVal ∧ (s.queueHost h).crcTxt = s.crcTxt ∧ (s.queueHost h).crcStart = s.crcStart ∧
    (s.queueHost h).crcEnd = s.crcEnd ∧ (s.queueHost h).crcCtl = s.crcCtl ∧ (s.queueHost h).txbuf = s.txbuf ∧
    (s.queueHost h).rxbuf = s.rxbuf ∧ (s.queueHost h).xbuf = s.xbuf ∧ (s.queueHost h).envIdx = s.envIdx ∧
    (s.queueHost h).cur = s.cur ∧ (s.queueHost h).out = s.out :=
  by and_intros <;> rfl

@[simp] theorem enterAwaiting_framing (s : State) : (s.enterAwaiting).framing = respFmt s.descriptor := rfl
@[simp] theorem enterAwaiting_rxLen (s : State) : (s.enterAwaiting).rxLen = 0 := rfl
@[simp] theorem enterAwaiting_rxNeed (s : State) : (s.enterAwaiting).rxNeed = 0 := rfl
@[simp] theorem enterAwaiting_tDead (s : State) : (s.enterAwaiting).tDead = s.cur.now + BitVec.ofNat 64 (tResp s.params s.tOvr s.descriptor) := rfl
@[simp] theorem enterAwaiting_tLast (s : State) : (s.enterAwaiting).tLast = s.cur.now := rfl
@[simp] theorem enterAwaiting_state (s : State) : (s.enterAwaiting).state = .awaitingResponse := rfl
@[simp] theorem enterAwaiting_frame (s : State) :
    (s.enterAwaiting).params = s.params ∧ (s.enterAwaiting).txLen = s.txLen ∧ (s.enterAwaiting).txPtr = s.txPtr ∧
    (s.enterAwaiting).t0 = s.t0 ∧ (s.enterAwaiting).retryCnt = s.retryCnt ∧ (s.enterAwaiting).err = s.err ∧
    (s.enterAwaiting).terr = s.terr ∧ (s.enterAwaiting).payStart = s.payStart ∧ (s.enterAwaiting).payEnd = s.payEnd ∧
    (s.enterAwaiting).fmt = s.fmt ∧ (s.enterAwaiting).crcPresent = s.crcPresent ∧ (s.enterAwaiting).breakO = s.breakO ∧
    (s.enterAwaiting).lastValid = s.lastValid ∧ (s.enterAwaiting).lastAddr = s.lastAddr ∧ (s.enterAwaiting).lastT = s.lastT ∧
    (s.enterAwaiting).done = s.done ∧ (s.enterAwaiting).ovr = s.ovr ∧ (s.enterAwaiting).cfg = s.cfg ∧
    (s.enterAwaiting).cmd0 = s.cmd0 ∧ (s.enterAwaiting).cmd1 = s.cmd1 ∧ (s.enterAwaiting).tOvr = s.tOvr ∧
    (s.enterAwaiting).txCap = s.txCap ∧ (s.enterAwaiting).rxCap = s.rxCap ∧ (s.enterAwaiting).abortLo = s.abortLo ∧
    (s.enterAwaiting).abortHi = s.abortHi ∧ (s.enterAwaiting).crcVal = s.crcVal ∧ (s.enterAwaiting).crcTxt = s.crcTxt ∧
    (s.enterAwaiting).crcStart = s.crcStart ∧ (s.enterAwaiting).crcEnd = s.crcEnd ∧ (s.enterAwaiting).crcCtl = s.crcCtl ∧
    (s.enterAwaiting).txbuf = s.txbuf ∧ (s.enterAwaiting).rxbuf = s.rxbuf ∧ (s.enterAwaiting).xbuf = s.xbuf ∧
    (s.enterAwaiting).inputs = s.inputs ∧ (s.enterAwaiting).envIdx = s.envIdx ∧ (s.enterAwaiting).cur = s.cur ∧
    (s.enterAwaiting).out = s.out :=
  by and_intros <;> rfl

@[simp] theorem sendNext_out (s : State) : (s.sendNext).out = { s.out with tx := some (lineByte .ascii7E1 (s.read .tx s.txPtr.toNat)) } := rfl
@[simp] theorem sendNext_txPtr (s : State) : (s.sendNext).txPtr = s.txPtr + 1 := rfl
@[simp] theorem sendNext_frame (s : State) :
    (s.sendNext).params = s.params ∧ (s.sendNext).state = s.state ∧ (s.sendNext).txLen = s.txLen ∧
    (s.sendNext).rxLen = s.rxLen ∧ (s.sendNext).rxNeed = s.rxNeed ∧ (s.sendNext).t0 = s.t0 ∧ (s.sendNext).tDead = s.tDead ∧
    (s.sendNext).tLast = s.tLast ∧ (s.sendNext).retryCnt = s.retryCnt ∧ (s.sendNext).err = s.err ∧ (s.sendNext).terr = s.terr ∧
    (s.sendNext).payStart = s.payStart ∧ (s.sendNext).payEnd = s.payEnd ∧ (s.sendNext).fmt = s.fmt ∧
    (s.sendNext).crcPresent = s.crcPresent ∧ (s.sendNext).framing = s.framing ∧ (s.sendNext).breakO = s.breakO ∧
    (s.sendNext).lastValid = s.lastValid ∧ (s.sendNext).lastAddr = s.lastAddr ∧ (s.sendNext).lastT = s.lastT ∧
    (s.sendNext).done = s.done ∧ (s.sendNext).ovr = s.ovr ∧ (s.sendNext).cfg = s.cfg ∧ (s.sendNext).cmd0 = s.cmd0 ∧
    (s.sendNext).cmd1 = s.cmd1 ∧ (s.sendNext).tOvr = s.tOvr ∧ (s.sendNext).txCap = s.txCap ∧ (s.sendNext).rxCap = s.rxCap ∧
    (s.sendNext).abortLo = s.abortLo ∧ (s.sendNext).abortHi = s.abortHi ∧ (s.sendNext).crcVal = s.crcVal ∧
    (s.sendNext).crcTxt = s.crcTxt ∧ (s.sendNext).crcStart = s.crcStart ∧ (s.sendNext).crcEnd = s.crcEnd ∧
    (s.sendNext).crcCtl = s.crcCtl ∧ (s.sendNext).txbuf = s.txbuf ∧ (s.sendNext).rxbuf = s.rxbuf ∧ (s.sendNext).xbuf = s.xbuf ∧
    (s.sendNext).inputs = s.inputs ∧ (s.sendNext).envIdx = s.envIdx ∧ (s.sendNext).cur = s.cur :=
  by and_intros <;> rfl

@[simp] theorem enterSuccess_payStart (s : State) : (s.enterSuccess).payStart = 1 := rfl
@[simp] theorem enterSuccess_payEnd (s : State) : (s.enterSuccess).payEnd = BitVec.ofNat 16 (payloadEnd (crcMode s.descriptor) s.rxLen.toNat) := rfl
@[simp] theorem enterSuccess_crcPresent (s : State) : (s.enterSuccess).crcPresent = decide (crcMode s.descriptor ≠ .none) := rfl
@[simp] theorem enterSuccess_lastValid (s : State) : (s.enterSuccess).lastValid = true := rfl
@[simp] theorem enterSuccess_lastAddr (s : State) : (s.enterSuccess).lastAddr = s.read .rx 0 := rfl
@[simp] theorem enterSuccess_lastT (s : State) : (s.enterSuccess).lastT = s.cur.now := rfl
@[simp] theorem enterSuccess_state (s : State) : (s.enterSuccess).state = .success := rfl
@[simp] theorem enterSuccess_done (s : State) : (s.enterSuccess).done = true := rfl
@[simp] theorem enterSuccess_frame (s : State) :
    (s.enterSuccess).params = s.params ∧ (s.enterSuccess).txLen = s.txLen ∧ (s.enterSuccess).txPtr = s.txPtr ∧
    (s.enterSuccess).rxLen = s.rxLen ∧ (s.enterSuccess).rxNeed = s.rxNeed ∧ (s.enterSuccess).t0 = s.t0 ∧
    (s.enterSuccess).tDead = s.tDead ∧ (s.enterSuccess).tLast = s.tLast ∧ (s.enterSuccess).retryCnt = s.retryCnt ∧
    (s.enterSuccess).err = s.err ∧ (s.enterSuccess).terr = s.terr ∧ (s.enterSuccess).fmt = s.fmt ∧
    (s.enterSuccess).framing = s.framing ∧ (s.enterSuccess).breakO = s.breakO ∧ (s.enterSuccess).ovr = s.ovr ∧
    (s.enterSuccess).cfg = s.cfg ∧ (s.enterSuccess).cmd0 = s.cmd0 ∧ (s.enterSuccess).cmd1 = s.cmd1 ∧
    (s.enterSuccess).tOvr = s.tOvr ∧ (s.enterSuccess).txCap = s.txCap ∧ (s.enterSuccess).rxCap = s.rxCap ∧
    (s.enterSuccess).abortLo = s.abortLo ∧ (s.enterSuccess).abortHi = s.abortHi ∧ (s.enterSuccess).crcVal = s.crcVal ∧
    (s.enterSuccess).crcTxt = s.crcTxt ∧ (s.enterSuccess).crcStart = s.crcStart ∧ (s.enterSuccess).crcEnd = s.crcEnd ∧
    (s.enterSuccess).crcCtl = s.crcCtl ∧ (s.enterSuccess).txbuf = s.txbuf ∧ (s.enterSuccess).rxbuf = s.rxbuf ∧
    (s.enterSuccess).xbuf = s.xbuf ∧ (s.enterSuccess).inputs = s.inputs ∧ (s.enterSuccess).envIdx = s.envIdx ∧
    (s.enterSuccess).cur = s.cur ∧ (s.enterSuccess).out = s.out :=
  by and_intros <;> rfl

@[simp] theorem write_tx_txbuf (s : State) (i : Nat) (v : Byte) : (s.write .tx i v).txbuf = s.txbuf.store i v := rfl
@[simp] theorem write_tx_others (s : State) (i : Nat) (v : Byte) :
    (s.write .tx i v).rxbuf = s.rxbuf ∧ (s.write .tx i v).xbuf = s.xbuf := ⟨rfl, rfl⟩
@[simp] theorem write_rx_rxbuf (s : State) (i : Nat) (v : Byte) : (s.write .rx i v).rxbuf = s.rxbuf.store i v := rfl
@[simp] theorem write_rx_others (s : State) (i : Nat) (v : Byte) :
    (s.write .rx i v).txbuf = s.txbuf ∧ (s.write .rx i v).xbuf = s.xbuf := ⟨rfl, rfl⟩
@[simp] theorem write_xb_xbuf (s : State) (i : Nat) (v : Byte) : (s.write .xb i v).xbuf = s.xbuf.store i v := rfl
@[simp] theorem write_xb_others (s : State) (i : Nat) (v : Byte) :
    (s.write .xb i v).txbuf = s.txbuf ∧ (s.write .xb i v).rxbuf = s.rxbuf := ⟨rfl, rfl⟩

/-- A buffer write changes no register. -/
@[simp] theorem write_frame (s : State) (sp : Space) (i : Nat) (v : Byte) :
    (s.write sp i v).params = s.params ∧ (s.write sp i v).state = s.state ∧ (s.write sp i v).txLen = s.txLen ∧
    (s.write sp i v).txPtr = s.txPtr ∧ (s.write sp i v).rxLen = s.rxLen ∧ (s.write sp i v).rxNeed = s.rxNeed ∧
    (s.write sp i v).t0 = s.t0 ∧ (s.write sp i v).tDead = s.tDead ∧ (s.write sp i v).tLast = s.tLast ∧
    (s.write sp i v).retryCnt = s.retryCnt ∧ (s.write sp i v).err = s.err ∧ (s.write sp i v).terr = s.terr ∧
    (s.write sp i v).payStart = s.payStart ∧ (s.write sp i v).payEnd = s.payEnd ∧ (s.write sp i v).fmt = s.fmt ∧
    (s.write sp i v).crcPresent = s.crcPresent ∧ (s.write sp i v).framing = s.framing ∧ (s.write sp i v).breakO = s.breakO ∧
    (s.write sp i v).lastValid = s.lastValid ∧ (s.write sp i v).lastAddr = s.lastAddr ∧ (s.write sp i v).lastT = s.lastT ∧
    (s.write sp i v).done = s.done ∧ (s.write sp i v).ovr = s.ovr ∧ (s.write sp i v).cfg = s.cfg ∧
    (s.write sp i v).cmd0 = s.cmd0 ∧ (s.write sp i v).cmd1 = s.cmd1 ∧ (s.write sp i v).tOvr = s.tOvr ∧
    (s.write sp i v).txCap = s.txCap ∧ (s.write sp i v).rxCap = s.rxCap ∧ (s.write sp i v).abortLo = s.abortLo ∧
    (s.write sp i v).abortHi = s.abortHi ∧ (s.write sp i v).crcVal = s.crcVal ∧ (s.write sp i v).crcTxt = s.crcTxt ∧
    (s.write sp i v).crcStart = s.crcStart ∧ (s.write sp i v).crcEnd = s.crcEnd ∧ (s.write sp i v).crcCtl = s.crcCtl ∧
    (s.write sp i v).inputs = s.inputs ∧ (s.write sp i v).envIdx = s.envIdx ∧ (s.write sp i v).cur = s.cur ∧
    (s.write sp i v).out = s.out := by
  cases sp <;> exact by and_intros <;> rfl

end Sys2Proof.Machine
end

