-- ==== Sys2Proof/Laws/Memory.lean ====
section
/-! SUPPORT. The laws of the buffers: a read after a write, and the canonical form every write keeps. -/

namespace Sys2Proof.Machine

@[simp] theorem lookup_nil (i : Nat) : Memory.lookup [] i = none := rfl

theorem lookup_store (m : Memory) (i j : Nat) (v : Byte) :
    (m.store i v).lookup j = if j = i then some v else m.lookup j := by
  induction m with
  | nil => simp [Memory.store, Memory.lookup, eq_comm]
  | cons c rest ih =>
    obtain ⟨a, w⟩ := c
    by_cases hlt : i < a
    · simp [Memory.store, hlt, Memory.lookup, eq_comm]
    · by_cases ha : i = a
      · subst ha
        by_cases hj : i = j
        · simp [Memory.store, Memory.lookup, hj]
        · simp [Memory.store, Memory.lookup, hj, Ne.symm hj]
      · by_cases hj : a = j
        · subst hj
          simp [Memory.store, hlt, ha, Memory.lookup, Ne.symm ha]
        · simp [Memory.store, hlt, ha, Memory.lookup, hj, ih]

@[simp] theorem lookup_store_same (m : Memory) (i : Nat) (v : Byte) : (m.store i v).lookup i = some v := by
  simp [lookup_store]

theorem lookup_store_other (m : Memory) {i j : Nat} (v : Byte) (h : j ≠ i) : (m.store i v).lookup j = m.lookup j := by
  simp [lookup_store, h]

theorem risingFrom_store (m : Memory) (lo i : Nat) (v : Byte) (hlo : lo ≤ i) (h : m.risingFrom lo = true) :
    (m.store i v).risingFrom lo = true := by
  induction m generalizing lo with
  | nil => simp [Memory.store, Memory.risingFrom, hlo]
  | cons c rest ih =>
    obtain ⟨a, w⟩ := c
    simp only [Memory.risingFrom, Bool.and_eq_true, decide_eq_true_eq] at h
    by_cases hlt : i < a
    · have h1 : i + 1 ≤ a := hlt
      simp [Memory.store, hlt, Memory.risingFrom, hlo, h.2, h1]
    · by_cases ha : i = a
      · subst ha
        simp [Memory.store, Memory.risingFrom, hlo, h.2]
      · simp only [Memory.store, hlt, ha, if_false, Memory.risingFrom, Bool.and_eq_true, decide_eq_true_eq]
        exact ⟨h.1, ih (a + 1) (by omega) h.2⟩

/-- Storing keeps the canonical form. -/
theorem store_wf (m : Memory) (i : Nat) (v : Byte) (h : m.wf = true) : (m.store i v).wf = true :=
  risingFrom_store m 0 i v (Nat.zero_le i) h

/-- Storing below the size keeps every index below it. -/
theorem store_below (m : Memory) (n i : Nat) (v : Byte) (hi : i < n) (h : m.below n = true) : (m.store i v).below n = true := by
  induction m with
  | nil => simpa [Memory.store, Memory.below] using hi
  | cons c rest ih =>
    obtain ⟨a, w⟩ := c
    simp only [Memory.below, List.all_cons, Bool.and_eq_true, decide_eq_true_eq] at h
    by_cases hlt : i < a
    · simp only [Memory.store, hlt, if_true, Memory.below, List.all_cons, Bool.and_eq_true, decide_eq_true_eq]
      exact ⟨hi, h.1, h.2⟩
    · by_cases ha : i = a
      · subst ha
        simp only [Memory.store, hlt, if_true, if_false, Memory.below, List.all_cons, Bool.and_eq_true, decide_eq_true_eq]
        exact ⟨hi, h.2⟩
      · simp only [Memory.store, hlt, ha, if_false, Memory.below, List.all_cons, Bool.and_eq_true, decide_eq_true_eq]
        exact ⟨h.1, ih h.2⟩

/-! ## Reading a state -/

theorem read_write (s : State) (sp sq : Space) (i j : Nat) (v : Byte) :
    (s.write sp i v).read sq j = if sq = sp ∧ j = i then v else s.read sq j := by
  cases sp <;> cases sq <;> by_cases h : j = i <;> simp [State.read, State.buffer, State.write, lookup_store, h]

@[simp] theorem read_write_same (s : State) (sp : Space) (i : Nat) (v : Byte) : (s.write sp i v).read sp i = v := by
  simp [read_write]

theorem read_write_other (s : State) {sp sq : Space} {i j : Nat} (v : Byte) (h : sq ≠ sp ∨ j ≠ i) :
    (s.write sp i v).read sq j = s.read sq j := by
  rw [read_write, if_neg]
  rintro ⟨h1, h2⟩
  exact h.elim (fun h => h h1) (fun h => h h2)

/-- Two states with the same buffers read the same. -/
theorem read_congr {s t : State} (h : t.txbuf = s.txbuf ∧ t.rxbuf = s.rxbuf ∧ t.xbuf = s.xbuf) (sp : Space) (i : Nat) :
    t.read sp i = s.read sp i := by
  cases sp <;> simp [State.read, State.buffer, h]

theorem readBytes_congr {s t : State} (h : t.txbuf = s.txbuf ∧ t.rxbuf = s.rxbuf ∧ t.xbuf = s.xbuf) (sp : Space) (i n : Nat) :
    t.readBytes sp i n = s.readBytes sp i n := by
  induction n generalizing i with
  | zero => rfl
  | succ k ih => simp [State.readBytes, read_congr h, ih]

@[simp] theorem readBytes_length (s : State) (sp : Space) (i n : Nat) : (s.readBytes sp i n).length = n := by
  induction n generalizing i with
  | zero => rfl
  | succ k ih => simp [State.readBytes, ih]

/-- A write outside a range leaves the bytes of the range. -/
theorem readBytes_write_outside (s : State) (sp sq : Space) (i j n : Nat) (v : Byte) (h : sq ≠ sp ∨ i < j ∨ j + n ≤ i) :
    (s.write sp i v).readBytes sq j n = s.readBytes sq j n := by
  induction n generalizing j with
  | zero => rfl
  | succ k ih =>
    simp only [State.readBytes]
    rw [read_write_other s v (h.imp id (by omega)), ih (j + 1) (h.imp id (by omega))]

/-! ## Writing several bytes -/

theorem writeBytes_read (s : State) (sp sq : Space) (i j : Nat) (bs : List Byte) :
    (s.writeBytes sp i bs).read sq j =
      if sq = sp ∧ i ≤ j ∧ j < i + bs.length then bs.getD (j - i) 0 else s.read sq j := by
  induction bs generalizing s i with
  | nil => simp [State.writeBytes]
  | cons b rest ih =>
    simp only [State.writeBytes, ih, read_write, List.length_cons]
    by_cases hq : sq = sp
    · by_cases h1 : i + 1 ≤ j ∧ j < i + 1 + rest.length
      · have h2 : i ≤ j ∧ j < i + (rest.length + 1) := by omega
        have h3 : j - i = (j - (i + 1)) + 1 := by omega
        simp [hq, h1, h2, h3]
      · by_cases h4 : j = i
        · subst h4; simp [hq]
        · have h5 : ¬(i ≤ j ∧ j < i + (rest.length + 1)) := by omega
          rw [if_neg (fun h => h1 h.2), if_neg (fun h => h4 h.2), if_neg (fun h => h5 h.2)]
    · simp [hq]

/-- The bytes just written read back. -/
theorem readBytes_writeBytes (s : State) (sp : Space) (i : Nat) (bs : List Byte) :
    (s.writeBytes sp i bs).readBytes sp i bs.length = bs := by
  induction bs generalizing s i with
  | nil => rfl
  | cons b rest ih =>
    simp only [State.writeBytes, List.length_cons, State.readBytes, ih]
    simp [writeBytes_read]

/-- Writing bytes leaves the other bytes of the buffers. -/
theorem writeBytes_read_other (s : State) (sp sq : Space) (i j : Nat) (bs : List Byte) (h : sq ≠ sp ∨ j < i ∨ i + bs.length ≤ j) :
    (s.writeBytes sp i bs).read sq j = s.read sq j := by
  rw [writeBytes_read, if_neg]
  rintro ⟨h1, h2, h3⟩
  rcases h with h | h | h
  · exact h h1
  · omega
  · omega

/-- Writing bytes keeps a buffer's form and size bound. -/
theorem writeBytes_buffer_wf (s : State) (sp : Space) (i : Nat) (bs : List Byte) (sq : Space)
    (h : (s.buffer sq).wf = true) : ((s.writeBytes sp i bs).buffer sq).wf = true := by
  induction bs generalizing s i with
  | nil => exact h
  | cons b rest ih =>
    refine ih (s.write sp i b) (i + 1) ?_
    cases sp <;> cases sq <;> simp_all [State.buffer, State.write, store_wf]

theorem writeBytes_buffer_below (s : State) (sp : Space) (i n : Nat) (bs : List Byte) (sq : Space) (hn : i + bs.length ≤ n)
    (h : (s.buffer sq).below n = true) : ((s.writeBytes sp i bs).buffer sq).below n = true := by
  induction bs generalizing s i with
  | nil => exact h
  | cons b rest ih =>
    simp only [List.length_cons] at hn
    refine ih (s.write sp i b) (i + 1) (by omega) ?_
    have hi : i < n := by omega
    cases sp <;> cases sq <;> simp_all [State.buffer, State.write, store_below]

/-- Writing bytes changes no register. -/
@[simp] theorem writeBytes_frame (s : State) (sp : Space) (i : Nat) (bs : List Byte) :
    (s.writeBytes sp i bs).params = s.params ∧ (s.writeBytes sp i bs).state = s.state ∧
    (s.writeBytes sp i bs).txLen = s.txLen ∧ (s.writeBytes sp i bs).txPtr = s.txPtr ∧ (s.writeBytes sp i bs).rxLen = s.rxLen ∧
    (s.writeBytes sp i bs).rxNeed = s.rxNeed ∧ (s.writeBytes sp i bs).t0 = s.t0 ∧ (s.writeBytes sp i bs).tDead = s.tDead ∧
    (s.writeBytes sp i bs).tLast = s.tLast ∧ (s.writeBytes sp i bs).retryCnt = s.retryCnt ∧
    (s.writeBytes sp i bs).err = s.err ∧ (s.writeBytes sp i bs).terr = s.terr ∧ (s.writeBytes sp i bs).payStart = s.payStart ∧
    (s.writeBytes sp i bs).payEnd = s.payEnd ∧ (s.writeBytes sp i bs).fmt = s.fmt ∧
    (s.writeBytes sp i bs).crcPresent = s.crcPresent ∧ (s.writeBytes sp i bs).framing = s.framing ∧
    (s.writeBytes sp i bs).breakO = s.breakO ∧ (s.writeBytes sp i bs).lastValid = s.lastValid ∧
    (s.writeBytes sp i bs).lastAddr = s.lastAddr ∧ (s.writeBytes sp i bs).lastT = s.lastT ∧
    (s.writeBytes sp i bs).done = s.done ∧ (s.writeBytes sp i bs).ovr = s.ovr ∧ (s.writeBytes sp i bs).cfg = s.cfg ∧
    (s.writeBytes sp i bs).cmd0 = s.cmd0 ∧ (s.writeBytes sp i bs).cmd1 = s.cmd1 ∧ (s.writeBytes sp i bs).tOvr = s.tOvr ∧
    (s.writeBytes sp i bs).txCap = s.txCap ∧ (s.writeBytes sp i bs).rxCap = s.rxCap ∧
    (s.writeBytes sp i bs).abortLo = s.abortLo ∧ (s.writeBytes sp i bs).abortHi = s.abortHi ∧
    (s.writeBytes sp i bs).crcVal = s.crcVal ∧ (s.writeBytes sp i bs).crcTxt = s.crcTxt ∧
    (s.writeBytes sp i bs).crcStart = s.crcStart ∧ (s.writeBytes sp i bs).crcEnd = s.crcEnd ∧
    (s.writeBytes sp i bs).crcCtl = s.crcCtl ∧ (s.writeBytes sp i bs).inputs = s.inputs ∧
    (s.writeBytes sp i bs).envIdx = s.envIdx ∧ (s.writeBytes sp i bs).cur = s.cur ∧ (s.writeBytes sp i bs).out = s.out := by
  induction bs generalizing s i with
  | nil => simp [State.writeBytes]
  | cons b rest ih => simpa [State.writeBytes] using ih (s.write sp i b) (i + 1)

/-- Writing bytes into one buffer leaves the others. -/
theorem writeBytes_tx_others (s : State) (i : Nat) (bs : List Byte) :
    (s.writeBytes .tx i bs).rxbuf = s.rxbuf ∧ (s.writeBytes .tx i bs).xbuf = s.xbuf := by
  induction bs generalizing s i with
  | nil => exact ⟨rfl, rfl⟩
  | cons b rest ih => simpa [State.writeBytes] using ih (s.write .tx i b) (i + 1)

/-- `State.reset`'s buffers have the canonical form. -/
theorem reset_buffers_wf : State.reset.BuffersWf := by decide

end Sys2Proof.Machine
end

