-- ==== Sys2Proof/Laws/Ops.lean ====
section
/-! SUPPORT. One lemma for each shared operation that says all it can do; a proof cites it and does not unfold the operation. -/

namespace Sys2Proof.Machine

/-! ## Sequencing -/

@[simp] theorem andThen_next (s : State) (f : State → StepOutcome) : andThen (.next s) f = f s := rfl
@[simp] theorem andThen_fault (r : Fault) (f : State → StepOutcome) : andThen (.fault r) f = .fault r := rfl
@[simp] theorem andThen_refused (r : Refusal) (f : State → StepOutcome) : andThen (.refused r) f = .refused r := rfl

/-- What follows a step is reached only through its next state. -/
theorem andThen_eq_next {o : StepOutcome} {f : State → StepOutcome} {u : State} :
    andThen o f = .next u ↔ ∃ t, o = .next t ∧ f t = .next u := by
  cases o <;> simp [andThen]

/-! ## Accepting an operation (R292, R293) -/

theorem accept_quiescent {s : State} (h : s.busy = false) (op : State → State) : accept s op = .next (op s.accepted) := by
  simp [accept, h]

theorem accept_busy {s : State} (h : s.busy = true) (op : State → State) : accept s op = .next { s with ovr := true } := by
  simp [accept, h]

/-- Accepting an operation answers a next state, whatever the state. -/
theorem accept_cases (s : State) (op : State → State) :
    (s.busy = true ∧ accept s op = .next { s with ovr := true }) ∨ (s.busy = false ∧ accept s op = .next (op s.accepted)) := by
  cases h : s.busy <;> simp [accept, h]

theorem issue_eq_accept (s : State) (fmt : Framing) (built : Except ErrKind (List Byte)) :
    ∃ op, issue s fmt built = accept s op := ⟨_, rfl⟩

/-- Every operation is an acceptance: refused while busy, else the common effects and its own. -/
theorem exec_eq_accept (i : Instr) (s : State) : ∃ op, exec i s = accept s op := by
  cases i
  case nop => exact ⟨_, by rw [exec, execNop]⟩
  case transact => exact ⟨_, by rw [exec, execTransact]⟩
  case cmdFormat => exact ⟨_, by rw [exec, execCmdFormat]⟩
  case addrCheck => exact ⟨_, by rw [exec, execAddrCheck]⟩
  case crcCompute => exact ⟨_, by rw [exec, execCrcCompute]⟩
  case crcEncAscii => exact ⟨_, by rw [exec, execCrcEncAscii]⟩
  case crcDecAscii => exact ⟨_, by rw [exec, execCrcDecAscii]⟩
  case crcVerify => exact ⟨_, by rw [exec, execCrcVerify]⟩
  case clear => exact ⟨_, by rw [exec, execClear]⟩
  case reservedOp9 => exact ⟨_, by rw [exec, execReservedOp9, reservedOperation]⟩
  case reservedOpA => exact ⟨_, by rw [exec, execReservedOpA, reservedOperation]⟩
  case reservedOpB => exact ⟨_, by rw [exec, execReservedOpB, reservedOperation]⟩
  case reservedOpC => exact ⟨_, by rw [exec, execReservedOpC, reservedOperation]⟩
  case reservedOpD => exact ⟨_, by rw [exec, execReservedOpD, reservedOperation]⟩
  case reservedOpE => exact ⟨_, by rw [exec, execReservedOpE, reservedOperation]⟩
  case reservedOpF => exact ⟨_, by rw [exec, execReservedOpF, reservedOperation]⟩
  all_goals exact issue_eq_accept s _ _

@[simp] theorem accepted_busy (s : State) : s.accepted.busy = false := rfl

/-! ## The operand checks (R106, R172, R175) -/

theorem withAddr_ok {a : Byte} {k : Except ErrKind (List Byte)} {w : List Byte} :
    withAddr a k = .ok w ↔ isSensorAddr a = true ∧ k = .ok w := by
  cases h : isSensorAddr a <;> simp [withAddr, h]

theorem withIndex_ok {α : Type} {n : Option α} {k : α → Except ErrKind (List Byte)} {w : List Byte} :
    withIndex n k = .ok w ↔ ∃ m, n = some m ∧ k m = .ok w := by
  cases n <;> simp [withIndex]

theorem setIndex_ofField {f : BitVec 10} {n : SetIndex} : SetIndex.ofField f = some n ↔ n.value.val = f.toNat := by
  obtain ⟨⟨v, hv⟩⟩ := n
  by_cases h : f.toNat < 10 <;> simp [SetIndex.ofField, h, eq_comm]
  omega

theorem contIndex_ofField {f : BitVec 10} {n : ContIndex} : ContIndex.ofField f = some n ↔ n.value.val = f.toNat := by
  obtain ⟨⟨v, hv⟩⟩ := n
  by_cases h : f.toNat < 10 <;> simp [ContIndex.ofField, h, eq_comm]
  omega

theorem dataIndex_ofField {f : BitVec 10} {n : DataIndex} : DataIndex.ofField f = some n ↔ n.value.val = f.toNat := by
  obtain ⟨⟨v, hv⟩⟩ := n
  by_cases h : f.toNat < 1000 <;> simp [DataIndex.ofField, h, eq_comm]
  omega

theorem paramNumber_ofField {f : BitVec 10} {p : ParamNumber} : ParamNumber.ofField f = some p ↔ p.value.val = f.toNat := by
  obtain ⟨⟨v, hv⟩, hp⟩ := p
  have hv0 : v ≠ 0 := fun h => hp (Fin.ext h)
  by_cases h : f.toNat < 1000
  · by_cases h0 : f.toNat = 0 <;> simp [ParamNumber.ofField, h, h0, Fin.ext_iff, eq_comm]
    all_goals omega
  · simp [ParamNumber.ofField, h]; omega

theorem withSetDigit_ok {n : BitVec 10} {k : SetIndex → Except ErrKind (List Byte)} {w : List Byte} :
    withSetDigit n k = .ok w ↔ n ≠ 0 ∧ ∃ m, SetIndex.ofField n = some m ∧ k m = .ok w := by
  unfold withSetDigit
  split
  · simp_all
  · rw [withIndex_ok]; simp_all

theorem withContDigit_ok {n : BitVec 10} {k : ContIndex → Except ErrKind (List Byte)} {w : List Byte} :
    withContDigit n k = .ok w ↔ ∃ m, ContIndex.ofField n = some m ∧ k m = .ok w := withIndex_ok

theorem withDataIndex_ok {n : BitVec 10} {k : DataIndex → Except ErrKind (List Byte)} {w : List Byte} :
    withDataIndex n k = .ok w ↔ ∃ m, DataIndex.ofField n = some m ∧ k m = .ok w := withIndex_ok

theorem withParam_ok {p : BitVec 10} {k : ParamNumber → Except ErrKind (List Byte)} {w : List Byte} :
    withParam p k = .ok w ↔ ∃ m, ParamNumber.ofField p = some m ∧ k m = .ok w := withIndex_ok

theorem withBody_ok {n : Nat} {body : List Byte} {k : Except ErrKind (List Byte)} {w : List Byte} :
    withBody n body k = .ok w ↔ (body.length ≤ n ∧ body.all isBodyByte = true) ∧ k = .ok w := by
  by_cases h : body.length ≤ n ∧ body.all isBodyByte = true <;> simp only [withBody, h, if_false] <;> simp

/-- A construction that passes (R175): the capacities, the command's own checks, and the length. -/
theorem construct_ok {s : State} {b : Bool} {built : Except ErrKind (List Byte)} {w : List Byte} :
    s.construct b built = .ok w ↔
      s.txCap.toNat ≤ s.params.txbufSize ∧ (b = true → s.rxCap ≠ 0 ∧ s.rxCap.toNat ≤ s.params.rxbufSize) ∧ built = .ok w ∧
        w.length ≤ s.txCap.toNat := by
  unfold State.construct
  by_cases h1 : s.params.txbufSize < s.txCap.toNat
  · rw [if_pos h1]
    simp; omega
  rw [if_neg h1]
  by_cases h2 : b = true ∧ (s.rxCap = 0 ∨ s.params.rxbufSize < s.rxCap.toNat)
  · rw [if_pos h2]
    simp only [reduceCtorEq, false_iff]
    rintro ⟨-, h3, -⟩
    obtain ⟨h4, h5⟩ := h3 h2.1
    rcases h2.2 with h6 | h6
    · exact h4 h6
    · omega
  rw [if_neg h2]
  cases built with
  | error e => simp
  | ok v =>
    by_cases h3 : s.txCap.toNat < v.length
    · simp only [h3, if_true, reduceCtorEq, false_iff]
      rintro ⟨-, -, h4, h5⟩
      cases h4; omega
    · simp only [h3, if_false, Except.ok.injEq]
      constructor
      · rintro rfl
        refine ⟨by omega, fun hb => ⟨fun h => h2 ⟨hb, Or.inl h⟩, ?_⟩, rfl, by omega⟩
        by_contra h
        exact h2 ⟨hb, Or.inr (by omega)⟩
      · exact fun h => h.2.2.1

/-! ## Starting an attempt (R297, R300) -/

theorem needBreak_iff (s : State) (isRetry : Bool) :
    s.needBreak isRetry = true ↔
      (isRetry = true ∧ s.retryBreak = true) ∨ s.breakSkipEn = false ∨ s.lastValid = false ∨ s.lastAddr ≠ s.descriptor.addr ∨
        s.params.tIdle < s.elapsed s.lastT := by
  simp [State.needBreak, or_assoc]

/-- `need_break` reads the configuration, the break tracking, the descriptor's address and the instant, and nothing else. -/
theorem needBreak_congr {s t : State} (isRetry : Bool)
    (h : t.cfg = s.cfg ∧ t.lastValid = s.lastValid ∧ t.lastAddr = s.lastAddr ∧ t.lastT = s.lastT ∧ t.cmd0 = s.cmd0 ∧
      t.cmd1 = s.cmd1 ∧ t.params = s.params ∧ t.cur = s.cur) : t.needBreak isRetry = s.needBreak isRetry := by
  obtain ⟨h1, h2, h3, h4, h5, h6, h7, h8⟩ := h
  unfold State.needBreak State.retryBreak State.breakSkipEn State.descriptor State.elapsed
  rw [h1, h2, h3, h4, h5, h6, h7, h8]

/-- The two ways an attempt starts. -/
theorem startAttempt_eq (s : State) (isRetry : Bool) :
    s.startAttempt isRetry =
      if s.needBreak isRetry = true then
        { s with err := .noError, terr := 0, rxLen := 0, rxNeed := 0, breakO := true, t0 := s.cur.now, state := .breakSent }
      else { s with err := .noError, terr := 0, rxLen := 0, rxNeed := 0, txPtr := 0, state := .commandSent } := by
  have h := needBreak_congr (s := s) (t := { s with err := .noError, terr := 0, rxLen := 0, rxNeed := 0 }) isRetry
    ⟨rfl, rfl, rfl, rfl, rfl, rfl, rfl, rfl⟩
  simp only [State.startAttempt, h]

/-! ## Issuing a command (R226, R294) -/

/-- What formatting leaves in the buffers. -/
theorem formatInto_read (s : State) (w : List Byte) (sp : Space) (i : Nat) :
    (s.formatInto w).read sp i = if sp = .tx ∧ i < w.length then w.getD i 0 else s.read sp i := by
  have h := writeBytes_read s .tx sp 0 i w
  simp only [Nat.zero_le, true_and, Nat.zero_add, Nat.sub_zero] at h
  rw [← h]
  exact read_congr ⟨rfl, rfl, rfl⟩ sp i

/-- Formatting writes `TXBUF` and the length, and nothing else. -/
theorem formatInto_eq (s : State) (w : List Byte) :
    s.formatInto w = { s with txLen := BitVec.ofNat 16 w.length, txbuf := (s.formatInto w).txbuf } := by
  have h2 := writeBytes_tx_others s 0 w
  rw [State.mk.injEq]
  simp [State.formatInto, h2]

theorem formatInto_readBytes (s : State) (w : List Byte) : (s.formatInto w).readBytes .tx 0 w.length = w := by
  have h : (s.formatInto w).readBytes .tx 0 w.length = (s.writeBytes .tx 0 w).readBytes .tx 0 w.length :=
    readBytes_congr (s := s.writeBytes .tx 0 w) (t := s.formatInto w) ⟨rfl, rfl, rfl⟩ _ _ _
  exact h.trans (readBytes_writeBytes s .tx 0 w)

theorem beginTransaction_error {s : State} {fmt : Framing} {built : Except ErrKind (List Byte)} {e : ErrKind}
    (h : s.construct true built = .error e) :
    s.beginTransaction fmt built =
      { s with
        retryCnt := 0, rxLen := 0, rxNeed := 0, payStart := 0, payEnd := 0, crcPresent := false, fmt := .ascii7E1
        err := e, terr := 0, txLen := 0, state := .failed, done := true } := by
  have h2 : State.construct { s with
      retryCnt := 0, rxLen := 0, rxNeed := 0, payStart := 0, payEnd := 0, crcPresent := false, fmt := .ascii7E1 } true built =
      .error e := h
  simp only [State.beginTransaction, h2]
  rfl

theorem beginTransaction_ok {s : State} {fmt : Framing} {built : Except ErrKind (List Byte)} {w : List Byte}
    (h : s.construct true built = .ok w) :
    s.beginTransaction fmt built =
      (State.formatInto { s with
        retryCnt := 0, rxLen := 0, rxNeed := 0, payStart := 0, payEnd := 0, crcPresent := false, fmt := fmt } w).startAttempt
        false := by
  have h2 : State.construct { s with
      retryCnt := 0, rxLen := 0, rxNeed := 0, payStart := 0, payEnd := 0, crcPresent := false, fmt := .ascii7E1 } true built =
      .ok w := h
  simp only [State.beginTransaction, h2]

/-! ## The engine's guards and the receiver -/

/-- A send-side handler: the overall deadline, a transport failure, or its own work (R242, R243, R248). -/
theorem sendGuard_cases (s : State) (k : StepOutcome) :
    (s.abortDue = true ∧ s.sendGuard k = .next (s.failFinal .timeout)) ∨
      (∃ e, s.abortDue = false ∧ s.cur.txErr = some e ∧ s.sendGuard k = .next (s.attemptFail .transport (transportSub e))) ∨
      (s.abortDue = false ∧ s.cur.txErr = none ∧ s.sendGuard k = k) := by
  unfold State.sendGuard
  cases h : s.abortDue <;> cases h2 : s.cur.txErr <;> simp

/-- Storing a received byte writes one cell of `RXBUF`, the length and the instant, and nothing else. -/
theorem keepByte_eq (s : State) (c : Byte) :
    s.keepByte c = { s with rxbuf := s.rxbuf.store s.rxLen.toNat c, rxLen := s.rxLen + 1, tLast := s.cur.now } := rfl

/-- The third byte of a binary frame gives its length, and changes nothing else. -/
theorem noteSize_eq (s : State) :
    s.noteSize = { s with rxNeed := if s.rxLen = 3 then 6 + s.packetSize.setWidth 17 else s.rxNeed } := by
  unfold State.noteSize
  split <;> rfl

/-- The end of a binary frame (R268): how it goes on. -/
theorem endBinary_cases (s : State) :
    s.endBinary = s.noteSize.attemptFail .capacity 0 ∨
      (s.endBinary = { s.noteSize with framing := .ascii7E1, state := .validating } ∧ s.noteSize.rxNeed ≠ 0 ∧
        s.noteSize.rxLen.toNat = s.noteSize.rxNeed.toNat) ∨
      (s.endBinary = s.noteSize ∧ ¬(s.noteSize.rxLen = 3 ∧ s.noteSize.rxCap.toNat < s.noteSize.rxNeed.toNat) ∧
        ¬(s.noteSize.rxNeed ≠ 0 ∧ s.noteSize.rxLen.toNat = s.noteSize.rxNeed.toNat) ∧ s.noteSize.rxLen ≠ s.noteSize.rxCap) := by
  unfold State.endBinary
  by_cases h1 : s.noteSize.rxLen = 3 ∧ s.noteSize.rxCap.toNat < s.noteSize.rxNeed.toNat
  · left; simp only [h1, and_self, if_true]
  by_cases h2 : s.noteSize.rxNeed ≠ 0 ∧ s.noteSize.rxLen.toNat = s.noteSize.rxNeed.toNat
  · right; left
    exact ⟨by simp only [if_neg h1, if_pos h2], h2⟩
  by_cases h3 : s.noteSize.rxLen = s.noteSize.rxCap
  · left; simp only [if_neg h1, if_neg h2, if_pos h3]
  · right; right
    exact ⟨by simp only [if_neg h1, if_neg h2, if_neg h3], h1, h2, h3⟩

/-- The binary form of a CRC or a size is the high byte before the low one, as numbers are written (R74, R156). -/
theorem decb_eq_append (b0 b1 : Byte) : decb b0 b1 = b1 ++ b0 := by
  unfold decb
  rw [BitVec.append_def, BitVec.shiftLeftZeroExtend_eq, BitVec.or_comm, BitVec.setWidth'_eq]

end Sys2Proof.Machine
end

