-- ==== Sys2Proof/Laws/PerInstr.lean ====
section
/-! SUPPORT. Per instruction: it is a code of `CTRL.OP` or a command whose descriptor has a legal kind and form (R121, R122, R125). -/

namespace Sys2Proof.Laws

/-- Either the instruction is an operation and no descriptor spells it, or it is a command, whose descriptor has a `KIND` of R121 and
a `META` of R122. -/
def ImageKind.Statement (i : Instr) : Prop :=
  match encodeCommand i with
  | none => (opCode i).isSome = true
  | some d => opCode i = none ∧ (Kind.ofCode d.kind).isSome = true ∧ d.metaForm ≠ 3

theorem ImageKind.ack (addr : Byte) : ImageKind.Statement (.ack addr) := ⟨rfl, rfl, by simp [Descriptor.plain]⟩
theorem ImageKind.query : ImageKind.Statement (.query) := ⟨rfl, rfl, by simp [Descriptor.plain]⟩
theorem ImageKind.ident (addr : Byte) : ImageKind.Statement (.ident addr) := ⟨rfl, rfl, by simp [Descriptor.plain]⟩
theorem ImageKind.chaddr (addr newAddr : Byte) : ImageKind.Statement (.chaddr addr newAddr) := ⟨rfl, rfl, by simp [Descriptor.plain]⟩
theorem ImageKind.m (addr : Byte) : ImageKind.Statement (.m addr) := ⟨rfl, rfl, by simp [Descriptor.plain]⟩
theorem ImageKind.mn (addr : Byte) (n : BitVec 10) : ImageKind.Statement (.mn addr n) := ⟨rfl, rfl, by simp [Descriptor.plain]⟩
theorem ImageKind.mc (addr : Byte) : ImageKind.Statement (.mc addr) := ⟨rfl, rfl, by simp [Descriptor.plain]⟩
theorem ImageKind.mcn (addr : Byte) (n : BitVec 10) : ImageKind.Statement (.mcn addr n) := ⟨rfl, rfl, by simp [Descriptor.plain]⟩
theorem ImageKind.v (addr : Byte) : ImageKind.Statement (.v addr) := ⟨rfl, rfl, by simp [Descriptor.plain]⟩
theorem ImageKind.c (addr : Byte) : ImageKind.Statement (.c addr) := ⟨rfl, rfl, by simp [Descriptor.plain]⟩
theorem ImageKind.cn (addr : Byte) (n : BitVec 10) : ImageKind.Statement (.cn addr n) := ⟨rfl, rfl, by simp [Descriptor.plain]⟩
theorem ImageKind.cc (addr : Byte) : ImageKind.Statement (.cc addr) := ⟨rfl, rfl, by simp [Descriptor.plain]⟩
theorem ImageKind.ccn (addr : Byte) (n : BitVec 10) : ImageKind.Statement (.ccn addr n) := ⟨rfl, rfl, by simp [Descriptor.plain]⟩
theorem ImageKind.rn (addr : Byte) (n : BitVec 10) : ImageKind.Statement (.rn addr n) := ⟨rfl, rfl, by simp [Descriptor.plain]⟩
theorem ImageKind.rcn (addr : Byte) (n : BitVec 10) : ImageKind.Statement (.rcn addr n) := ⟨rfl, rfl, by simp [Descriptor.plain]⟩
theorem ImageKind.dn (addr : Byte) (n : BitVec 10) (crc : Bool) : ImageKind.Statement (.dn addr n crc) := ⟨rfl, rfl, by simp [Descriptor.plain]⟩
theorem ImageKind.ha (addr : Byte) : ImageKind.Statement (.ha addr) := ⟨rfl, rfl, by simp [Descriptor.plain]⟩
theorem ImageKind.hb (addr : Byte) : ImageKind.Statement (.hb addr) := ⟨rfl, rfl, by simp [Descriptor.plain]⟩
theorem ImageKind.dbn (addr : Byte) (n : BitVec 10) : ImageKind.Statement (.dbn addr n) := ⟨rfl, rfl, by simp [Descriptor.plain]⟩
theorem ImageKind.im (addr : Byte) : ImageKind.Statement (.im addr) := ⟨rfl, rfl, by simp [Descriptor.plain]⟩
theorem ImageKind.imn (addr : Byte) (n : BitVec 10) : ImageKind.Statement (.imn addr n) := ⟨rfl, rfl, by simp [Descriptor.plain]⟩
theorem ImageKind.imc (addr : Byte) : ImageKind.Statement (.imc addr) := ⟨rfl, rfl, by simp [Descriptor.plain]⟩
theorem ImageKind.imcn (addr : Byte) (n : BitVec 10) : ImageKind.Statement (.imcn addr n) := ⟨rfl, rfl, by simp [Descriptor.plain]⟩
theorem ImageKind.iv (addr : Byte) : ImageKind.Statement (.iv addr) := ⟨rfl, rfl, by simp [Descriptor.plain]⟩
theorem ImageKind.ic (addr : Byte) : ImageKind.Statement (.ic addr) := ⟨rfl, rfl, by simp [Descriptor.plain]⟩
theorem ImageKind.icn (addr : Byte) (n : BitVec 10) : ImageKind.Statement (.icn addr n) := ⟨rfl, rfl, by simp [Descriptor.plain]⟩
theorem ImageKind.icc (addr : Byte) : ImageKind.Statement (.icc addr) := ⟨rfl, rfl, by simp [Descriptor.plain]⟩
theorem ImageKind.iccn (addr : Byte) (n : BitVec 10) : ImageKind.Statement (.iccn addr n) := ⟨rfl, rfl, by simp [Descriptor.plain]⟩
theorem ImageKind.iha (addr : Byte) : ImageKind.Statement (.iha addr) := ⟨rfl, rfl, by simp [Descriptor.plain]⟩
theorem ImageKind.ihb (addr : Byte) : ImageKind.Statement (.ihb addr) := ⟨rfl, rfl, by simp [Descriptor.plain]⟩
theorem ImageKind.imP (addr : Byte) (p : BitVec 10) (crc : Bool) : ImageKind.Statement (.imP addr p crc) := ⟨rfl, rfl, by simp [Descriptor.plain]⟩
theorem ImageKind.imnP (addr : Byte) (n p : BitVec 10) (crc : Bool) : ImageKind.Statement (.imnP addr n p crc) := ⟨rfl, rfl, by simp [Descriptor.plain]⟩
theorem ImageKind.imcP (addr : Byte) (p : BitVec 10) (crc : Bool) : ImageKind.Statement (.imcP addr p crc) := ⟨rfl, rfl, by simp [Descriptor.plain]⟩
theorem ImageKind.imcnP (addr : Byte) (n p : BitVec 10) (crc : Bool) : ImageKind.Statement (.imcnP addr n p crc) := ⟨rfl, rfl, by simp [Descriptor.plain]⟩
theorem ImageKind.ivP (addr : Byte) (p : BitVec 10) (crc : Bool) : ImageKind.Statement (.ivP addr p crc) := ⟨rfl, rfl, by simp [Descriptor.plain]⟩
theorem ImageKind.icP (addr : Byte) (p : BitVec 10) (crc : Bool) : ImageKind.Statement (.icP addr p crc) := ⟨rfl, rfl, by simp [Descriptor.plain]⟩
theorem ImageKind.icnP (addr : Byte) (n p : BitVec 10) (crc : Bool) : ImageKind.Statement (.icnP addr n p crc) := ⟨rfl, rfl, by simp [Descriptor.plain]⟩
theorem ImageKind.iccP (addr : Byte) (p : BitVec 10) (crc : Bool) : ImageKind.Statement (.iccP addr p crc) := ⟨rfl, rfl, by simp [Descriptor.plain]⟩
theorem ImageKind.iccnP (addr : Byte) (n p : BitVec 10) (crc : Bool) : ImageKind.Statement (.iccnP addr n p crc) := ⟨rfl, rfl, by simp [Descriptor.plain]⟩
theorem ImageKind.irnP (addr : Byte) (n p : BitVec 10) (crc : Bool) : ImageKind.Statement (.irnP addr n p crc) := ⟨rfl, rfl, by simp [Descriptor.plain]⟩
theorem ImageKind.ircnP (addr : Byte) (n p : BitVec 10) (crc : Bool) : ImageKind.Statement (.ircnP addr n p crc) := ⟨rfl, rfl, by simp [Descriptor.plain]⟩
theorem ImageKind.ihaP (addr : Byte) (p : BitVec 10) (crc : Bool) : ImageKind.Statement (.ihaP addr p crc) := ⟨rfl, rfl, by simp [Descriptor.plain]⟩
theorem ImageKind.ihbP (addr : Byte) (p : BitVec 10) (crc : Bool) : ImageKind.Statement (.ihbP addr p crc) := ⟨rfl, rfl, by simp [Descriptor.plain]⟩
theorem ImageKind.x (addr : Byte) (body : List Byte) (crc : Bool) : ImageKind.Statement (.x addr body crc) := ⟨rfl, rfl, by simp [Descriptor.plain]⟩
theorem ImageKind.nop : ImageKind.Statement (.nop) := rfl
theorem ImageKind.transact : ImageKind.Statement (.transact) := rfl
theorem ImageKind.cmdFormat : ImageKind.Statement (.cmdFormat) := rfl
theorem ImageKind.addrCheck : ImageKind.Statement (.addrCheck) := rfl
theorem ImageKind.crcCompute : ImageKind.Statement (.crcCompute) := rfl
theorem ImageKind.crcEncAscii : ImageKind.Statement (.crcEncAscii) := rfl
theorem ImageKind.crcDecAscii : ImageKind.Statement (.crcDecAscii) := rfl
theorem ImageKind.crcVerify : ImageKind.Statement (.crcVerify) := rfl
theorem ImageKind.clear : ImageKind.Statement (.clear) := rfl
theorem ImageKind.reservedOp9 : ImageKind.Statement (.reservedOp9) := rfl
theorem ImageKind.reservedOpA : ImageKind.Statement (.reservedOpA) := rfl
theorem ImageKind.reservedOpB : ImageKind.Statement (.reservedOpB) := rfl
theorem ImageKind.reservedOpC : ImageKind.Statement (.reservedOpC) := rfl
theorem ImageKind.reservedOpD : ImageKind.Statement (.reservedOpD) := rfl
theorem ImageKind.reservedOpE : ImageKind.Statement (.reservedOpE) := rfl
theorem ImageKind.reservedOpF : ImageKind.Statement (.reservedOpF) := rfl

end Sys2Proof.Laws
end

