-- ==== Sys2Proof/Laws/Step.lean ====
section
/-! SUPPORT. What a step can do, said once: the input record taken, then the reset, or the two phases and the outputs. -/

namespace Sys2Proof.Machine

/-- Taking the input record changes the input, what waits behind it, and the outputs not yet set. -/
theorem latch_eq (s : State) :
    s.latch =
      { s with
        inputs := s.latch.inputs
        envIdx := s.latch.envIdx
        cur := s.latch.cur
        out := { s.out with tx := none, rdata := 0 } } := by
  unfold State.latch
  cases s.inputs <;> rfl

/-- Taking a record that waits. -/
theorem latch_cons (s : State) (c : Input) (rest : List Input) (h : s.inputs = c :: rest) :
    s.latch = { s with cur := c, inputs := rest, out := { s.out with tx := none, rdata := 0 } } := by
  unfold State.latch
  rw [h]
  rfl

/-- A step that answers a next state is a reset step, or its host phase and then its engine phase have answered one. -/
theorem step_cases {s t : State} (h : step s = .next t) :
    (s.latch.cur.rst = true ∧ t = s.latch.resetStep) ∨
      (s.latch.cur.rst = false ∧ ∃ a u, s.latch.hostPhase = .next a ∧ a.enginePhase s.state = .next u ∧ t = u.drive) := by
  have hs : s.latch.state = s.state := by rw [latch_eq]
  unfold step State.stepLatched at h
  cases hr : s.latch.cur.rst
  · right
    rw [hr] at h
    obtain ⟨a, ha, h2⟩ := andThen_eq_next.1 h
    obtain ⟨u, hu, h3⟩ := andThen_eq_next.1 h2
    refine ⟨rfl, a, u, ha, by rw [← hs]; exact hu, ?_⟩
    cases h3
    rfl
  · left
    rw [hr] at h
    cases h
    exact ⟨rfl, rfl⟩

/-- A reset step answers its state whatever else the input carries. -/
theorem step_reset {s : State} (h : s.latch.cur.rst = true) : step s = .next s.latch.resetStep := by
  simp [step, State.stepLatched, h]

/-- A step that is no reset step, from its two phases. -/
theorem step_phases {s a u : State} (hr : s.latch.cur.rst = false) (ha : s.latch.hostPhase = .next a)
    (hu : a.enginePhase s.state = .next u) : step s = .next u.drive := by
  have hs : s.latch.state = s.state := by rw [latch_eq]
  simp [step, State.stepLatched, hr, State.phases, ha, hs, hu]

/-- In a quiescent state the engine phase does nothing (R290). -/
theorem enginePhase_quiescent (a : State) {q : FsmState} (h : q.busy = false) : a.enginePhase q = .next a := by
  cases q <;> first | rfl | simp [FsmState.busy] at h

/-- The overall deadline's guard, in the words of the statements (R313). -/
theorem abortDue_iff (s : State) : s.abortDue = true ↔ s.pastDeadline s.cur.now := by
  simp only [State.abortDue, State.pastDeadline, State.abortEn, State.abortAt, Bool.and_eq_true]
  exact and_congr Iff.rfl decide_eq_true_iff

/-- The inter-byte timeout's guard (R264). -/
theorem interbyteDue_iff (s : State) :
    s.interbyteDue = true ↔
      s.params.tInterbyte ≠ 0 ∧ s.rxLen ≠ 0 ∧ s.params.tInterbyte ≤ s.cur.now.toNat - s.tLast.toNat := by
  unfold State.interbyteDue
  rw [Bool.and_eq_true, Bool.and_eq_true, decide_eq_true_iff, decide_eq_true_iff, decide_eq_true_iff, and_assoc]
  rfl

/-- No handler of the engine phase changes the input record. -/
theorem enginePhase_cur {a u : State} {q : FsmState} (h : a.enginePhase q = .next u) : u.cur = a.cur := by
  cases q <;> simp only [State.enginePhase, State.breakSentPhase, State.markingWaitPhase, State.commandSentPhase, State.awaitingPhase, State.validatingPhase, State.retryPhase] at h
  case idle => cases h; rfl
  case success => cases h; rfl
  case failed => cases h; rfl
  case breakSent =>
    rcases sendGuard_cases a _ with ⟨-, g⟩ | ⟨e, -, -, g⟩ | ⟨-, -, g⟩ <;> rw [g] at h
    · cases h; rfl
    · cases h; rfl
    · split at h <;> cases h <;> rfl
  case markingWait =>
    rcases sendGuard_cases a _ with ⟨-, g⟩ | ⟨e, -, -, g⟩ | ⟨-, -, g⟩ <;> rw [g] at h
    · cases h; rfl
    · cases h; rfl
    · split at h <;> cases h <;> rfl
  case commandSent =>
    rcases sendGuard_cases a _ with ⟨-, g⟩ | ⟨e, -, -, g⟩ | ⟨-, -, g⟩ <;> rw [g] at h
    · cases h; rfl
    · cases h; rfl
    · repeat' split at h
      all_goals cases h
      all_goals rfl
  case awaitingResponse =>
    repeat' split at h
    · cases h; rfl
    · cases h; rfl
    · cases h; rfl
    · unfold State.receive at h
      repeat' split at h
      all_goals first | (cases h; rfl) | skip
      all_goals cases h
      unfold State.storeByte
      split
      · unfold State.endAscii; split <;> rfl
      · rcases endBinary_cases (a.keepByte _) with g | ⟨g, -⟩ | ⟨g, -⟩ <;> rw [g, noteSize_eq] <;> rfl
  case validating =>
    repeat' split at h
    all_goals cases h
    all_goals rfl
  case retry =>
    split at h
    · cases h; rw [startAttempt_eq]; split <;> rfl
    · cases h; rfl

end Sys2Proof.Machine
end

