-- ==== Sys2Proof/Tests/Slice0.lean ====
section
/-! SUPPORT. Tests. The expected values are those of `95_test_vectors.md` and of the rules' own examples; a witness shows a state and
operands that meet the hypotheses of a statement together. -/

namespace Sys2Proof.Tests

set_option Elab.async false

open Sys2Proof Sys2Proof.Machine

/-! ## Well-formedness: an ill-formed operand for each check -/

theorem test_wf_address : (Instr.m 0x2A).wf = false ∧ (Instr.ack 0x3F).wf = false ∧ (Instr.m 0x7A).wf = true := by decide +kernel
theorem test_wf_new_address : (Instr.chaddr 0x30 0x3F).wf = false ∧ (Instr.chaddr 0x30 0x5A).wf = true := by decide +kernel
theorem test_wf_set_digit : (Instr.mn 0x30 0).wf = false ∧ (Instr.mn 0x30 10).wf = false ∧ (Instr.mn 0x30 9).wf = true := by decide +kernel
theorem test_wf_cont_digit : (Instr.rn 0x30 10).wf = false ∧ (Instr.rn 0x30 0).wf = true := by decide +kernel
theorem test_wf_data_index : (Instr.dn 0x30 1000 false).wf = false ∧ (Instr.dbn 0x30 999).wf = true := by decide +kernel
theorem test_wf_parameter :
    (Instr.imP 0x30 0 false).wf = false ∧ (Instr.imP 0x30 1000 false).wf = false ∧ (Instr.imP 0x30 999 false).wf = true := by decide +kernel
theorem test_wf_body_byte :
    (Instr.x 0x30 [0x21] false).wf = false ∧ (Instr.x 0x30 [0x1F] false).wf = false ∧ (Instr.x 0x30 [0x7F] false).wf = false ∧
      (Instr.x 0x30 [0x20, 0x7E] false).wf = true := by decide +kernel
theorem test_wf_body_length : (Instr.x 0x30 (List.replicate 256 0x41) false).wf = false := by decide +kernel

/-! ## Decoding (section 4 of `95_test_vectors.md`; R41, R125) -/

theorem test_decode_ack : decodeCommand (Descriptor.ofRegs 0x00000030 0x00000000) [] = .ok (.ack 0x30) ∧
    decode [0x30, 0x21] = .ok (.ack 0x30) := by decide +kernel
theorem test_decode_query : decodeCommand (Descriptor.ofRegs 0x0000003F 0x00000000) [] = .ok (.query) ∧
    decode [0x3F, 0x21] = .ok (.query) := by decide +kernel
theorem test_decode_ident : decodeCommand (Descriptor.ofRegs 0x00000130 0x00000000) [] = .ok (.ident 0x30) ∧
    decode [0x30, 0x49, 0x21] = .ok (.ident 0x30) := by decide +kernel
theorem test_decode_chaddr : decodeCommand (Descriptor.ofRegs 0x00000230 0x00310000) [] = .ok (.chaddr 0x30 0x31) ∧
    decode [0x30, 0x41, 0x31, 0x21] = .ok (.chaddr 0x30 0x31) := by decide +kernel
theorem test_decode_m : decodeCommand (Descriptor.ofRegs 0x00000330 0x00000000) [] = .ok (.m 0x30) ∧
    decode [0x30, 0x4D, 0x21] = .ok (.m 0x30) := by decide +kernel
theorem test_decode_mn : decodeCommand (Descriptor.ofRegs 0x00030330 0x00000000) [] = .ok (.mn 0x30 3) ∧
    decode [0x30, 0x4D, 0x33, 0x21] = .ok (.mn 0x30 3) := by decide +kernel
theorem test_decode_mc : decodeCommand (Descriptor.ofRegs 0x00000430 0x00000000) [] = .ok (.mc 0x30) ∧
    decode [0x30, 0x4D, 0x43, 0x21] = .ok (.mc 0x30) := by decide +kernel
theorem test_decode_mcn : decodeCommand (Descriptor.ofRegs 0x00090430 0x00000000) [] = .ok (.mcn 0x30 9) ∧
    decode [0x30, 0x4D, 0x43, 0x39, 0x21] = .ok (.mcn 0x30 9) := by decide +kernel
theorem test_decode_v : decodeCommand (Descriptor.ofRegs 0x00000530 0x00000000) [] = .ok (.v 0x30) ∧
    decode [0x30, 0x56, 0x21] = .ok (.v 0x30) := by decide +kernel
theorem test_decode_c : decodeCommand (Descriptor.ofRegs 0x00000630 0x00000000) [] = .ok (.c 0x30) ∧
    decode [0x30, 0x43, 0x21] = .ok (.c 0x30) := by decide +kernel
theorem test_decode_cn : decodeCommand (Descriptor.ofRegs 0x00010630 0x00000000) [] = .ok (.cn 0x30 1) ∧
    decode [0x30, 0x43, 0x31, 0x21] = .ok (.cn 0x30 1) := by decide +kernel
theorem test_decode_cc : decodeCommand (Descriptor.ofRegs 0x00000730 0x00000000) [] = .ok (.cc 0x30) ∧
    decode [0x30, 0x43, 0x43, 0x21] = .ok (.cc 0x30) := by decide +kernel
theorem test_decode_ccn : decodeCommand (Descriptor.ofRegs 0x00020730 0x00000000) [] = .ok (.ccn 0x30 2) ∧
    decode [0x30, 0x43, 0x43, 0x32, 0x21] = .ok (.ccn 0x30 2) := by decide +kernel
theorem test_decode_rn : decodeCommand (Descriptor.ofRegs 0x00000830 0x00000000) [] = .ok (.rn 0x30 0) ∧
    decode [0x30, 0x52, 0x30, 0x21] = .ok (.rn 0x30 0) := by decide +kernel
theorem test_decode_rcn : decodeCommand (Descriptor.ofRegs 0x00050930 0x00000000) [] = .ok (.rcn 0x30 5) ∧
    decode [0x30, 0x52, 0x43, 0x35, 0x21] = .ok (.rcn 0x30 5) := by decide +kernel
theorem test_decode_dn : decodeCommand (Descriptor.ofRegs 0x00000A30 0x00000000) [] = .ok (.dn 0x30 0 false) ∧
    decode [0x30, 0x44, 0x30, 0x21] = .ok (.dn 0x30 0 false) := by decide +kernel
theorem test_decode_ha : decodeCommand (Descriptor.ofRegs 0x00000B30 0x00000000) [] = .ok (.ha 0x30) ∧
    decode [0x30, 0x48, 0x41, 0x21] = .ok (.ha 0x30) := by decide +kernel
theorem test_decode_hb : decodeCommand (Descriptor.ofRegs 0x00000C30 0x00000000) [] = .ok (.hb 0x30) ∧
    decode [0x30, 0x48, 0x42, 0x21] = .ok (.hb 0x30) := by decide +kernel
theorem test_decode_dbn : decodeCommand (Descriptor.ofRegs 0x000C0D30 0x00000000) [] = .ok (.dbn 0x30 12) ∧
    decode [0x30, 0x44, 0x42, 0x31, 0x32, 0x21] = .ok (.dbn 0x30 12) := by decide +kernel
theorem test_decode_im : decodeCommand (Descriptor.ofRegs 0x04000330 0x00000000) [] = .ok (.im 0x30) ∧
    decode [0x30, 0x49, 0x4D, 0x21] = .ok (.im 0x30) := by decide +kernel
theorem test_decode_imn : decodeCommand (Descriptor.ofRegs 0x04040330 0x00000000) [] = .ok (.imn 0x30 4) ∧
    decode [0x30, 0x49, 0x4D, 0x34, 0x21] = .ok (.imn 0x30 4) := by decide +kernel
theorem test_decode_imc : decodeCommand (Descriptor.ofRegs 0x04000430 0x00000000) [] = .ok (.imc 0x30) ∧
    decode [0x30, 0x49, 0x4D, 0x43, 0x21] = .ok (.imc 0x30) := by decide +kernel
theorem test_decode_imcn : decodeCommand (Descriptor.ofRegs 0x04010430 0x00000000) [] = .ok (.imcn 0x30 1) ∧
    decode [0x30, 0x49, 0x4D, 0x43, 0x31, 0x21] = .ok (.imcn 0x30 1) := by decide +kernel
theorem test_decode_iv : decodeCommand (Descriptor.ofRegs 0x04000530 0x00000000) [] = .ok (.iv 0x30) ∧
    decode [0x30, 0x49, 0x56, 0x21] = .ok (.iv 0x30) := by decide +kernel
theorem test_decode_ic : decodeCommand (Descriptor.ofRegs 0x04000630 0x00000000) [] = .ok (.ic 0x30) ∧
    decode [0x30, 0x49, 0x43, 0x21] = .ok (.ic 0x30) := by decide +kernel
theorem test_decode_icn : decodeCommand (Descriptor.ofRegs 0x04070630 0x00000000) [] = .ok (.icn 0x30 7) ∧
    decode [0x30, 0x49, 0x43, 0x37, 0x21] = .ok (.icn 0x30 7) := by decide +kernel
theorem test_decode_icc : decodeCommand (Descriptor.ofRegs 0x04000730 0x00000000) [] = .ok (.icc 0x30) ∧
    decode [0x30, 0x49, 0x43, 0x43, 0x21] = .ok (.icc 0x30) := by decide +kernel
theorem test_decode_iccn : decodeCommand (Descriptor.ofRegs 0x04030730 0x00000000) [] = .ok (.iccn 0x30 3) ∧
    decode [0x30, 0x49, 0x43, 0x43, 0x33, 0x21] = .ok (.iccn 0x30 3) := by decide +kernel
theorem test_decode_iha : decodeCommand (Descriptor.ofRegs 0x04000B30 0x00000000) [] = .ok (.iha 0x30) ∧
    decode [0x30, 0x49, 0x48, 0x41, 0x21] = .ok (.iha 0x30) := by decide +kernel
theorem test_decode_ihb : decodeCommand (Descriptor.ofRegs 0x04000C30 0x00000000) [] = .ok (.ihb 0x30) ∧
    decode [0x30, 0x49, 0x48, 0x42, 0x21] = .ok (.ihb 0x30) := by decide +kernel
theorem test_decode_imP : decodeCommand (Descriptor.ofRegs 0x08000330 0x00000001) [] = .ok (.imP 0x30 1 false) ∧
    decode [0x30, 0x49, 0x4D, 0x5F, 0x30, 0x30, 0x31, 0x21] = .ok (.imP 0x30 1 false) := by decide +kernel
theorem test_decode_imnP : decodeCommand (Descriptor.ofRegs 0x08020330 0x0000000C) [] = .ok (.imnP 0x30 2 12 false) ∧
    decode [0x30, 0x49, 0x4D, 0x32, 0x5F, 0x30, 0x31, 0x32, 0x21] = .ok (.imnP 0x30 2 12 false) := by decide +kernel
theorem test_decode_imcP : decodeCommand (Descriptor.ofRegs 0x08000430 0x000003E7) [] = .ok (.imcP 0x30 999 false) ∧
    decode [0x30, 0x49, 0x4D, 0x43, 0x5F, 0x39, 0x39, 0x39, 0x21] = .ok (.imcP 0x30 999 false) := by decide +kernel
theorem test_decode_imcnP : decodeCommand (Descriptor.ofRegs 0x08010430 0x00000001) [] = .ok (.imcnP 0x30 1 1 false) ∧
    decode [0x30, 0x49, 0x4D, 0x43, 0x31, 0x5F, 0x30, 0x30, 0x31, 0x21] = .ok (.imcnP 0x30 1 1 false) := by decide +kernel
theorem test_decode_ivP : decodeCommand (Descriptor.ofRegs 0x08000530 0x00000001) [] = .ok (.ivP 0x30 1 false) ∧
    decode [0x30, 0x49, 0x56, 0x5F, 0x30, 0x30, 0x31, 0x21] = .ok (.ivP 0x30 1 false) := by decide +kernel
theorem test_decode_icP : decodeCommand (Descriptor.ofRegs 0x08000630 0x00000003) [] = .ok (.icP 0x30 3 false) ∧
    decode [0x30, 0x49, 0x43, 0x5F, 0x30, 0x30, 0x33, 0x21] = .ok (.icP 0x30 3 false) := by decide +kernel
theorem test_decode_icnP : decodeCommand (Descriptor.ofRegs 0x08090630 0x00000064) [] = .ok (.icnP 0x30 9 100 false) ∧
    decode [0x30, 0x49, 0x43, 0x39, 0x5F, 0x31, 0x30, 0x30, 0x21] = .ok (.icnP 0x30 9 100 false) := by decide +kernel
theorem test_decode_iccP : decodeCommand (Descriptor.ofRegs 0x08000730 0x00000002) [] = .ok (.iccP 0x30 2 false) ∧
    decode [0x30, 0x49, 0x43, 0x43, 0x5F, 0x30, 0x30, 0x32, 0x21] = .ok (.iccP 0x30 2 false) := by decide +kernel
theorem test_decode_iccnP : decodeCommand (Descriptor.ofRegs 0x08010730 0x0000000A) [] = .ok (.iccnP 0x30 1 10 false) ∧
    decode [0x30, 0x49, 0x43, 0x43, 0x31, 0x5F, 0x30, 0x31, 0x30, 0x21] = .ok (.iccnP 0x30 1 10 false) := by decide +kernel
theorem test_decode_irnP : decodeCommand (Descriptor.ofRegs 0x08000830 0x00000001) [] = .ok (.irnP 0x30 0 1 false) ∧
    decode [0x30, 0x49, 0x52, 0x30, 0x5F, 0x30, 0x30, 0x31, 0x21] = .ok (.irnP 0x30 0 1 false) := by decide +kernel
theorem test_decode_ircnP : decodeCommand (Descriptor.ofRegs 0x08090930 0x000003E7) [] = .ok (.ircnP 0x30 9 999 false) ∧
    decode [0x30, 0x49, 0x52, 0x43, 0x39, 0x5F, 0x39, 0x39, 0x39, 0x21] = .ok (.ircnP 0x30 9 999 false) := by decide +kernel
theorem test_decode_ihaP : decodeCommand (Descriptor.ofRegs 0x08000B30 0x00000001) [] = .ok (.ihaP 0x30 1 false) ∧
    decode [0x30, 0x49, 0x48, 0x41, 0x5F, 0x30, 0x30, 0x31, 0x21] = .ok (.ihaP 0x30 1 false) := by decide +kernel
theorem test_decode_ihbP : decodeCommand (Descriptor.ofRegs 0x08000C30 0x00000005) [] = .ok (.ihbP 0x30 5 false) ∧
    decode [0x30, 0x49, 0x48, 0x42, 0x5F, 0x30, 0x30, 0x35, 0x21] = .ok (.ihbP 0x30 5 false) := by decide +kernel
theorem test_decode_x : decodeCommand (Descriptor.ofRegs 0x00000E30 0x02000000) [0x58, 0x54] = .ok (.x 0x30 [0x58, 0x54] false) ∧
    decode [0x30, 0x58, 0x54, 0x21] = .ok (.x 0x30 [0x58, 0x54] false) := by decide +kernel
theorem test_decode_nop : decodeOp 0xFFFFFFF0 = .nop := by decide +kernel
theorem test_decode_transact : decodeOp 0x00000001 = .transact := by decide +kernel
theorem test_decode_cmdFormat : decodeOp 0x00000002 = .cmdFormat := by decide +kernel
theorem test_decode_addrCheck : decodeOp 0x00000003 = .addrCheck := by decide +kernel
theorem test_decode_crcCompute : decodeOp 0x00000004 = .crcCompute := by decide +kernel
theorem test_decode_crcEncAscii : decodeOp 0x00000005 = .crcEncAscii := by decide +kernel
theorem test_decode_crcDecAscii : decodeOp 0x00000006 = .crcDecAscii := by decide +kernel
theorem test_decode_crcVerify : decodeOp 0x00000007 = .crcVerify := by decide +kernel
theorem test_decode_clear : decodeOp 0x00000008 = .clear := by decide +kernel
theorem test_decode_reservedOp9 : decodeOp 0x00000009 = .reservedOp9 := by decide +kernel
theorem test_decode_reservedOpA : decodeOp 0x0000000A = .reservedOpA := by decide +kernel
theorem test_decode_reservedOpB : decodeOp 0x0000000B = .reservedOpB := by decide +kernel
theorem test_decode_reservedOpC : decodeOp 0x0000000C = .reservedOpC := by decide +kernel
theorem test_decode_reservedOpD : decodeOp 0x0000000D = .reservedOpD := by decide +kernel
theorem test_decode_reservedOpE : decodeOp 0x0000000E = .reservedOpE := by decide +kernel
theorem test_decode_reservedOpF : decodeOp 0x0000000F = .reservedOpF := by decide +kernel
theorem test_decode_refuses :
    decodeCommand (Descriptor.ofRegs 0x00000F30 0) [] = .error .reservedKind ∧
      decodeCommand (Descriptor.ofRegs 0x0C000330 0) [] = .error .reservedMeta ∧
      decodeCommand (Descriptor.ofRegs 0x04000A30 0) [] = .error .metaNotForKind ∧ decode [0x30, 0x4D] = .error .noFrame := by decide +kernel

/-- The edges of R108 and R127: no leading zero, no digit 0 after `M`, the catch-all. -/
theorem test_decode_edges :
    decode [0x30, 0x44, 0x39, 0x39, 0x39, 0x21] = .ok (.dn 0x30 999 false) ∧
      decode [0x61, 0x44, 0x30, 0x30, 0x37, 0x21] = .ok (.x 0x61 [0x44, 0x30, 0x30, 0x37] false) ∧
      decode [0x61, 0x4D, 0x30, 0x21] = .ok (.x 0x61 [0x4D, 0x30] false) := by decide +kernel

/-- A row's word, byte 0 in the lowest bits, and as the table's strings write it. -/
theorem test_table_words :
    decodeTableWord 24 0x214D61 = some (.m 0x61) ∧ decodeTableWord 24 0x614D21 = some (.m 0x61) ∧
      decodeTableWord 24 0x304461 = some (.dn 0x61 0 false) ∧ decodeTableWord 8 0x61 = some (.x 0x61 [] false) ∧
      decodeTableWord 32 0x00000008 = some .clear ∧ decodeTableWord 32 0x0000000F = some .reservedOpF := by decide +kernel

/-! ## Characters and CRC (sections 2 and 3 of `95_test_vectors.md`) -/

theorem test_line_byte :
    lineByte .ascii7E1 0x31 = 0xB1 ∧ lineByte .ascii7E1 0x30 = 0x30 ∧ lineByte .ascii7E1 0x0D = 0x8D ∧ lineByte .ascii7E1 0x7F = 0xFF ∧
      lineByte .ascii7E1 0xB1 = 0xB1 ∧ lineByte .binary8N1 0x31 = 0x31 := by decide +kernel
theorem test_char_of :
    charOf .ascii7E1 0xB1 = some 0x31 ∧ charOf .ascii7E1 0x31 = none ∧ charOf .ascii7E1 0x0A = some 0x0A ∧
      charOf .ascii7E1 0x8A = none ∧ charOf .binary8N1 0x31 = some 0x31 := by decide +kernel
theorem test_crc16 :
    crc16 [] = 0 ∧ crc16 [0xFF] = 0x4040 ∧ crc16 [0x61] = 0xE8C1 ∧ crc16 [0x30, 0x2B, 0x33, 0x2E, 0x31, 0x34] = 0xFC5A ∧
      crc16 [0x30, 0x02, 0x00, 0x01, 0xAB, 0xCD] = 0x5593 ∧ crc16 [0x80] = 0xA001 := by decide +kernel
theorem test_enc3 :
    enc3 0xFC5A = ⟨0x4F, 0x71, 0x5A⟩ ∧ enc3 0xFFFF = ⟨0x4F, 0x7F, 0x7F⟩ ∧ enc3 0x0040 = ⟨0x40, 0x41, 0x40⟩ ∧
      enc3 0xF000 = ⟨0x4F, 0x40, 0x40⟩ ∧ encb 0xFC5A = (0x5A, 0xFC) := by decide +kernel
theorem test_dec3 :
    dec3 ⟨0x4F, 0x71, 0x5A⟩ = some 0xFC5A ∧ dec3 ⟨0x50, 0x40, 0x40⟩ = none ∧ dec3 ⟨0x3F, 0x40, 0x40⟩ = none ∧
      dec3 ⟨0x4F, 0x71, 0x31⟩ = none ∧ dec3 ⟨0x4F, 0x80, 0x40⟩ = none := by decide +kernel
theorem test_verify_ascii :
    verifyAscii [0x30, 0x2B, 0x33, 0x2E, 0x31, 0x35, 0x4F, 0x71, 0x5A] = .crcMismatch 0x3C9B 0xFC5A ∧
      verifyAscii [0x40, 0x40, 0x40] = .ok 0 ∧ verifyAscii [0x40, 0x40] = .crcDecode ∧ verifyAscii [0x30, 0x41, 0x50, 0x40] = .ok 0x1400 := by
  decide +kernel
theorem test_verify_binary :
    verifyBinary [0x30, 0x02, 0x00, 0x01, 0xAB, 0xCD, 0x93, 0x55] = .ok 0x5593 ∧
      verifyBinary [0x30, 0x02, 0x00, 0x01, 0xAB, 0xCD, 0x55, 0x93] = .crcMismatch 0x5593 0x9355 ∧ verifyBinary [0x00] = .crcDecode := by
  decide +kernel

/-! ## One step -/

/-- The state a step leaves; the state itself where the step stops. -/
def after (s : State) : State :=
  match step s with
  | .next t => t
  | _ => s

/-- The step of `s` answers a next state. -/
def completes (s : State) : Bool :=
  match step s with
  | .next _ => true
  | _ => false

theorem step_after {s : State} (h : completes s = true) : step s = .next (after s) := by
  unfold completes at h
  unfold after
  split at h
  · rename_i t ht
    rw [ht]
  · cases h

/-- `s` with one input record waiting. -/
def fed (s : State) (i : Input) : State := { s with inputs := [i] }

/-- A step at instant `now` with host access `h`. -/
def hosted (now : Instant) (h : HostAccess) : Input := { Input.quiet now with host := h }

/-- A step at instant `now` that receives the line byte `lb`. -/
def heard (now : Instant) (lb : Byte) : Input := { Input.quiet now with rx := .byte lb }

/-- Right after reset, with the descriptor words `c0` and `c1`. -/
def described (c0 c1 : Word) : State := { State.reset with cmd0 := c0, cmd1 := c1 }

/-- A quiescent state whose `TX_CAP` is `n`. -/
def admitting (n : BitVec 16) : State := { State.reset with txCap := n }

/-- `0M!` in progress in state `q`, `r.t0 = 1000` (program P1). -/
def sending (q : FsmState) : State :=
  { described 0x00000330 0 with
    state := q
    breakO := q == .breakSent
    txLen := 3
    t0 := 1000
    txbuf := [(0, 0x30), (1, 0x4D), (2, 0x21)] }

/-- `0M!` waiting for its response since instant 46331, `bs` received (program P1). -/
def listening (bs : List Byte) : State :=
  State.writeBytes { sending .awaitingResponse with txPtr := 3, tDead := 946331, tLast := 46331, rxLen := BitVec.ofNat 16 bs.length } .rx 0 bs

/-- `0DB0!` waiting for its response, `bs` received (program P5). -/
def listeningBinary (bs : List Byte) (need : BitVec 17) : State :=
  State.writeBytes
    { described 0x00000D30 0 with
      state := .awaitingResponse
      fmt := .binary8N1
      framing := .binary8N1
      txLen := 5
      txPtr := 5
      txbuf := [(0, 0x30), (1, 0x44), (2, 0x42), (3, 0x30), (4, 0x21)]
      tDead := 962997
      rxNeed := need
      rxLen := BitVec.ofNat 16 bs.length } .rx 0 bs

/-- A frame `bs` under validation for the command of descriptor word `c0` (section 6). -/
def validating (c0 : Word) (fmt : Framing) (bs : List Byte) : State :=
  State.writeBytes { described c0 0 with state := .validating, fmt := fmt, rxLen := BitVec.ofNat 16 bs.length } .rx 0 bs

/-- The operands of the CRC operations over `RXBUF` holding `0+3.14OqZ` (section 2). -/
def crcState (ctl : BitVec 3) (lo hi : BitVec 16) : State :=
  State.writeBytes { State.reset with crcCtl := ctl, crcStart := lo, crcEnd := hi } .rx 0
    [0x30, 0x2B, 0x33, 0x2E, 0x31, 0x34, 0x4F, 0x71, 0x5A]

/-- Vectors H1 to H6 and H11. -/
theorem test_host_reads_after_reset :
    State.reset.readCsr 1 = 0 ∧ State.reset.readCsr 3 = 0x603 ∧ State.reset.readCsr 7 = 0x20 ∧ State.reset.readCsr 8 = 0x400 ∧
      State.reset.readCsr 28 = 0 := by decide +kernel
theorem test_nop_status :
    (after (fed State.reset (hosted 5 (.wrCsr 0 0xFFFFFFF0)))).readCsr 1 = 0x20 ∧
      (after (fed State.reset (hosted 5 (.wrCsr 0 0x9)))).readCsr 2 = 10 := by decide +kernel
/-- Program P1, its first step; vectors H7, H8. -/
theorem test_transact_starts_break :
    let t := after (fed (described 0x00000330 0) (hosted 1000 (.wrCsr 0 1)))
    t.state = .breakSent ∧ t.t0 = 1000 ∧ t.txLen = 3 ∧ t.readBytes .tx 0 3 = [0x30, 0x4D, 0x21] ∧ t.readCsr 1 = 0x111 := by decide +kernel
theorem test_write_refused_while_busy :
    let t := after (fed (sending .breakSent) (hosted 2000 (.wrCsr 4 0x331)))
    t.cmd0 = 0x330 ∧ t.ovr = true ∧ t.state = .breakSent := by decide +kernel
/-- Vectors H9, H13, H14. -/
theorem test_buffer_read_refused :
    (after (fed (listening [0x30]) (hosted 50000 (.rdBuf .rx 0)))).out.rdata = 0 ∧
      (after (fed (listening [0x30]) (hosted 50000 (.rdBuf .rx 0)))).ovr = true := by decide +kernel
theorem test_clear_keeps_last :
    (after (fed { State.reset with state := .success, done := true, ovr := true, lastValid := true } (hosted 5 (.wrCsr 0 8)))).readCsr 1 =
      0x200 := by decide +kernel
theorem test_irq :
    let t := after (fed { State.reset with state := .success, done := true, lastValid := true } (hosted 5 (.wrCsr 3 0x1603)))
    t.out.irqO = true ∧ t.readCsr 1 = 0x626 := by decide +kernel

/-- Construction checks K1 to K6, K8 to K12, K14 to K17: the error of a `TRANSACT`. -/
def constructed (s : State) : ErrKind × FsmState := ((after (fed s (hosted 1000 (.wrCsr 0 1)))).err, (after (fed s (hosted 1000 (.wrCsr 0 1)))).state)

theorem test_construct_order :
    constructed (described 0x000A0330 0) = (.indexOutOfRange, .failed) ∧ constructed (described 0x000A032A 0) = (.invalidAddress, .failed) ∧
      constructed (described 0x00000F2A 0) = (.illegalEncoding, .failed) ∧
      constructed { described 0x00000330 0 with txCap := 2 } = (.capacity, .failed) ∧
      constructed { described 0x0000032A 0 with txCap := 33 } = (.illegalEncoding, .failed) ∧
      constructed (described 0x03E80A30 0) = (.indexOutOfRange, .failed) := by decide +kernel
theorem test_construct_forms :
    constructed (described 0x08000330 0) = (.indexOutOfRange, .failed) ∧ constructed (described 0x04000A30 0) = (.illegalEncoding, .failed) ∧
      constructed (described 0x0000013F 0) = (.invalidAddress, .failed) ∧
      constructed (described 0x00000230 0x003F0000) = (.invalidAddress, .failed) ∧
      constructed { described 0x00000330 0 with rxCap := 0 } = (.illegalEncoding, .failed) ∧
      constructed (described 0x01F40030 0) = (.noError, .breakSent) ∧ constructed (described 0x0C4D0330 0) = (.illegalEncoding, .failed) := by
  decide +kernel
/-- K12, K13 and the example of R224. -/
theorem test_construct_extended :
    constructed { described 0x00000E30 0x01000000 with xbuf := [(0, 0x21)] } = (.illegalEncoding, .failed) ∧
      constructed { described 0x00000E30 0x02000000 with xbuf := [(0, 0x58), (1, 0x54)] } = (.noError, .breakSent) := by decide +kernel

/-- Section 2: the CRC operations. -/
theorem test_crc_compute :
    (after (fed (crcState 0 0 6) (hosted 5 (.wrCsr 0 4)))).readCsr 16 = 0xFC5A ∧ (after (fed (crcState 0 1 6) (hosted 5 (.wrCsr 0 4)))).readCsr 16 = 0xC5F ∧
      (after (fed (crcState 0 5 4) (hosted 5 (.wrCsr 0 4)))).readCsr 2 = 10 ∧ (after (fed (crcState 3 0 0) (hosted 5 (.wrCsr 0 4)))).readCsr 2 = 10 ∧
      (after (fed (crcState 0 0 1025) (hosted 5 (.wrCsr 0 4)))).readCsr 2 = 10 := by decide +kernel
theorem test_crc_text :
    (after (fed { State.reset with crcVal := 0xFC5A } (hosted 5 (.wrCsr 0 5)))).readCsr 17 = 0x005A714F ∧
      (after (fed { State.reset with crcTxt := 0x5A714F } (hosted 5 (.wrCsr 0 6)))).readCsr 16 = 0xFC5A ∧
      (after (fed { State.reset with crcTxt := 0x404050 } (hosted 5 (.wrCsr 0 6)))).readCsr 2 = 9 := by decide +kernel
theorem test_crc_verify :
    (after (fed (crcState 0 0 9) (hosted 5 (.wrCsr 0 7)))).readCsr 16 = 0xFC5A ∧
      (after (fed ((crcState 0 0 9).write .rx 5 0x35) (hosted 5 (.wrCsr 0 7)))).readCsr 16 = 0x3C9B ∧
      (after (fed ((crcState 0 0 9).write .rx 5 0x35) (hosted 5 (.wrCsr 0 7)))).readCsr 2 = 7 ∧
      (after (fed (crcState 0 0 2) (hosted 5 (.wrCsr 0 7)))).readCsr 2 = 9 := by decide +kernel

/-- `CMD_FORMAT` does not look at `RX_CAP` (K14). -/
theorem test_cmd_format :
    let t := after (fed { described 0x00000330 0 with rxCap := 0 } (hosted 5 (.wrCsr 0 2)))
    t.state = .idle ∧ t.done = true ∧ t.err = .noError ∧ t.txLen = 3 ∧ t.readBytes .tx 0 3 = [0x30, 0x4D, 0x21] := by decide +kernel
theorem test_addr_check :
    (after (fed (described 0x3F 0) (hosted 5 (.wrCsr 0 3)))).err = .noError ∧ (after (fed (described 0xB0 0) (hosted 5 (.wrCsr 0 3)))).err = .invalidAddress := by
  decide +kernel

/-- The rows of section 7. -/
def lastGood (c0 cfg : Word) (now : Instant) : State :=
  { described c0 0 with cfg := cfg, lastValid := true, lastAddr := 0x30, lastT := 120001, cur := Input.quiet now }

theorem test_need_break :
    (lastGood 0x330 0x603 207001).needBreak false = false ∧ (lastGood 0x330 0x603 207002).needBreak false = true ∧
      (lastGood 0x331 0x603 150000).needBreak false = true ∧ (lastGood 0x330 0x403 150000).needBreak false = true ∧
      (lastGood 0x330 0x603 150000).needBreak true = true ∧ (lastGood 0x330 0x203 150000).needBreak true = false ∧
      (lastGood 0x3F 0x603 150000).needBreak false = true := by decide +kernel

/-- Program P1, the edges of the break, the marking and the sending. -/
theorem test_break_and_marking :
    (after (fed (sending .breakSent) (Input.quiet 12999))).state = .breakSent ∧
      (after (fed (sending .breakSent) (Input.quiet 13000))).state = .markingWait ∧
      (after (fed (sending .markingWait) (Input.quiet 9329))).state = .markingWait ∧
      (after (fed (sending .markingWait) (Input.quiet 9330))).state = .commandSent := by decide +kernel
theorem test_send :
    (after (fed { sending .commandSent with txPtr := 1 } { Input.quiet 29664 with txReady := true })).out.tx = some 0x4D ∧
      (after (fed { sending .commandSent with txPtr := 3 } { Input.quiet 46331 with txDone := true })).tDead = 946331 ∧
      (after (fed { sending .commandSent with txPtr := 3 } { Input.quiet 46331 with txDone := true })).state = .awaitingResponse := by decide +kernel

/-- Section 8: the deadline edge; program P4: a parity error. -/
theorem test_deadline_edge :
    (after (fed (listening [0x30]) (heard 946330 0x0A))).state = .validating ∧ (after (fed (listening [0x30]) (heard 946331 0x0A))).err = .timeout ∧
      (after (fed (listening [0x30]) (heard 74665 0x31))).readCsr 2 = 0x104 := by decide +kernel
/-- Program P5 and B5, B6: the size field. -/
theorem test_binary_size :
    (after (fed (listeningBinary [0x30, 0x02] 0) (heard 99665 0x00))).rxNeed = 8 ∧
      (after (fed (listeningBinary [0x30, 0xFF] 0) (heard 99665 0xFF))).err = .capacity ∧
      (after (fed { listeningBinary [0x30, 0x02] 0 with rxCap := 7 } (heard 99665 0x00))).err = .capacity := by decide +kernel

/-- V1, V4, V6, V8 to V12. -/
theorem test_validate_ascii :
    let t := after (fed (validating 0x330 .ascii7E1 [0x30, 0x30, 0x30, 0x30, 0x35, 0x0D, 0x0A]) (Input.quiet 128338))
    t.readCsr 1 = 0x226 ∧ t.payStart = 1 ∧ t.payEnd = 5 ∧ t.readCsr 21 = 0x130 ∧ t.lastT = 128338 ∧
      (after (fed (validating 0x330 .ascii7E1 [0x30, 0x0A]) (Input.quiet 9))).err = .terminator ∧
      (after (fed (validating 0x330 .ascii7E1 [0x31, 0x0D, 0x0A]) (Input.quiet 9))).err = .addressMismatch := by decide +kernel
theorem test_validate_crc :
    (after (fed (validating 0x10000A30 .ascii7E1 [0x30, 0x41, 0x50, 0x40, 0x0D, 0x0A]) (Input.quiet 9))).readCsr 2 = 0x20000 ∧
      (after (fed (validating 0x10000A30 .ascii7E1 [0x30, 0x41, 0x50, 0x41, 0x0D, 0x0A]) (Input.quiet 9))).err = .crcMismatch ∧
      (after (fed (validating 0x10000A30 .ascii7E1 [0x30, 0x41, 0x50, 0x21, 0x0D, 0x0A]) (Input.quiet 9))).err = .crcDecode ∧
      (after (fed (validating 0x10000A30 .ascii7E1 [0x30, 0x0D, 0x0A]) (Input.quiet 9))).err = .crcDecode := by decide +kernel
/-- B2, B3; V18, V20, V21. -/
theorem test_validate_binary :
    (after (fed (validating 0xD30 .binary8N1 [0x30, 0, 0, 0, 0x0F, 0x00]) (Input.quiet 9))).payEnd = 4 ∧
      (after (fed (validating 0xD30 .binary8N1 [0x30, 0, 0, 0, 0x00, 0x0F]) (Input.quiet 9))).err = .crcMismatch := by decide +kernel
theorem test_validate_address :
    (after (fed (validating 0x3F .ascii7E1 [0x7A, 0x0D, 0x0A]) (Input.quiet 9))).lastAddr = 0x7A ∧
      (after (fed (validating 0x3F .ascii7E1 [0x3F, 0x0D, 0x0A]) (Input.quiet 9))).err = .addressMismatch ∧
      (after (fed { validating 0x230 .ascii7E1 [0x31, 0x0D, 0x0A] with cmd1 := 0x310000 } (Input.quiet 9))).state = .success := by decide +kernel

/-- Programs P3 and P7: the retry bound and the overall deadline. -/
theorem test_retry_bound :
    (after (fed { sending .retry with err := .timeout, retryCnt := 2 } (Input.quiet 9))).retryCnt = 3 ∧
      (after (fed { sending .retry with err := .timeout, retryCnt := 3 } (Input.quiet 9))).readCsr 1 = 0x28 ∧
      (after (fed { sending .retry with err := .addressMismatch } (Input.quiet 9))).state = .failed := by decide +kernel
theorem test_overall_deadline :
    (after (fed { sending .markingWait with cfg := 0xE03, abortLo := 5000 } (Input.quiet 4999))).state = .markingWait ∧
      (after (fed { sending .markingWait with cfg := 0xE03, abortLo := 5000 } (Input.quiet 5000))).readCsr 1 = 0x28 := by decide +kernel

/-- A reset step keeps the buffers (R62) and nothing else. -/
theorem test_reset_step :
    after (fed (sending .breakSent) { Input.quiet 7 with rst := true, host := .wrCsr 0 1 }) =
      { State.reset with txbuf := (sending .breakSent).txbuf, cur := { Input.quiet 7 with rst := true, host := .wrCsr 0 1 } } := by decide +kernel

/-- The interface functions of the host: the very next step runs the instruction. -/
theorem test_fetch_word :
    (after (State.reset.withFetchWord 24 0x214D61)).readBytes .tx 0 3 = [0x61, 0x4D, 0x21] ∧
      (after (State.reset.withFetchWord 24 0x214D61)).state = .breakSent ∧ (after (State.reset.withFetchWord 32 9)).err = .illegalEncoding := by
  decide +kernel

/-! ## Witnesses -/

theorem witness_DescriptorRoundTrip :
    (Instr.ircnP 0x7A 9 999 true).WellFormed ∧
      encodeCommand (.ircnP 0x7A 9 999 true) = some (Descriptor.ofRegs 0x1809097A 0x3E7) := by decide +kernel

theorem witness_WireRoundTrip :
    (Instr.dn 0x7A 999 true).WellFormed ∧ ∀ a body crc, Instr.dn 0x7A 999 true ≠ .x a body crc :=
  ⟨by decide +kernel, fun _ _ _ h => nomatch h⟩

theorem witness_CheckAcceptsWellFormed :
    [0x58#8, 0x54#8].length = (Descriptor.ofRegs 0x00000E30 0x02000000).xlen.toNat := by decide +kernel

theorem witness_CommandFrameShape :
    [0x58#8, 0x54#8].length = (Descriptor.ofRegs 0x00000E30 0x02000000).xlen.toNat ∧
      checkedWire 2 (Descriptor.ofRegs 0x00000E30 0x02000000) [0x58, 0x54] = .ok [0x30, 0x58, 0x54, 0x21] := by decide +kernel

theorem witness_ParityRoundTrip :
    (0x7F#8 < 0x80#8) ∧ charOf .ascii7E1 0x31 = none ∧ { State.reset with cur := heard 5 0x31 }.cur.rx = .byte 0x31 := by decide +kernel

theorem witness_CrcLaws : [0x30#8, 0x31#8].length = [0xFF#8, 0#8].length ∧ 1 < [0x30#8, 0x31#8].length ∧ 7 < 8 := by decide +kernel

theorem witness_CrcTextRoundTrip : dec3 ⟨0x4F, 0x7F, 0x7F⟩ = some 0xFFFF := by decide +kernel

theorem witness_VerifyAcceptsOwnCrc :
    [0x40#8, 0x40#8].length < 3 ∧ [0x40#8].length < 2 ∧ dec3 ⟨0x50, 0x40, 0x40⟩ = none := by decide +kernel

/-- The index types at the ends of their ranges (R172), and just past them. -/
theorem witness_DecimalSpelling :
    SetIndex.ofField 0 = some ⟨0⟩ ∧ SetIndex.ofField 9 = some ⟨9⟩ ∧ SetIndex.ofField 10 = none ∧ ContIndex.ofField 9 = some ⟨9⟩ ∧
      ContIndex.ofField 10 = none ∧ DataIndex.ofField 999 = some ⟨999⟩ ∧ DataIndex.ofField 1000 = none ∧
      ParamNumber.ofField 0 = none ∧ ParamNumber.ofField 1 = some ⟨1, by decide⟩ ∧ ParamNumber.ofField 999 = some ⟨999, by decide⟩ ∧
      ParamNumber.ofField 1000 = none := by decide +kernel

theorem witness_DescriptorAttributes : Kind.ofCode (Descriptor.ofRegs 0x0000023F 0x310000).kind ≠ none := by decide +kernel

/-! Each command at the smallest capacity that holds it, its operands at their bounds. -/

theorem witness_AddressCommandsStart : isSensorAddr 0x30 = true ∧ isSensorAddr 0x7A = true ∧ (admitting 2).Admits 2 ∧ (admitting 3).Admits 3 ∧
      (admitting 4).Admits 4 := by
  unfold State.Admits
  decide +kernel

theorem witness_MeasurementSetsStart :
    isSensorAddr 0x30 = true ∧ (∀ n ∈ [1, 9], 1 ≤ (BitVec.ofNat 10 n).toNat ∧ (BitVec.ofNat 10 n).toNat ≤ 9) ∧ (admitting 4).Admits 4 ∧
      (admitting 5).Admits 5 := by
  unfold State.Admits
  decide +kernel

theorem witness_ContinuousCommandsStart :
    isSensorAddr 0x5A = true ∧ (∀ n ∈ [0, 9], (BitVec.ofNat 10 n).toNat ≤ 9) ∧ (admitting 4).Admits 4 ∧ (admitting 5).Admits 5 := by
  unfold State.Admits
  decide +kernel

theorem witness_DataCommandsStart :
    isSensorAddr 0x30 = true ∧ (admitting 4).Admits (3 + (dec ⟨9, by decide⟩).length) ∧
      (admitting 7).Admits (4 + (dec ⟨(999#10).toNat, by decide⟩).length) := by
  unfold State.Admits
  decide +kernel

theorem witness_IdentifyCommandsStart :
    isSensorAddr 0x30 = true ∧ (∀ n ∈ [1, 9], 1 ≤ (BitVec.ofNat 10 n).toNat ∧ (BitVec.ofNat 10 n).toNat ≤ 9) ∧ (admitting 4).Admits 4 ∧
      (admitting 5).Admits 5 ∧ (admitting 6).Admits 6 := by
  unfold State.Admits
  decide +kernel

theorem witness_ParameterCommandsStart :
    isSensorAddr 0x30 = true ∧ (∀ p ∈ [1, 999], 1 ≤ (BitVec.ofNat 10 p).toNat ∧ (BitVec.ofNat 10 p).toNat < 1000) ∧
      (∀ n ∈ [0, 1, 9], (BitVec.ofNat 10 n).toNat ≤ 9) ∧ (admitting 8).Admits 8 ∧ (admitting 9).Admits 9 ∧ (admitting 10).Admits 10 := by
  unfold State.Admits
  decide +kernel

theorem witness_ExtendedCommandStarts :
    isSensorAddr 0x30 = true ∧ (List.replicate 16 0x7E#8).length ≤ (admitting 18).params.xbufSize ∧
      (∀ b ∈ List.replicate 16 0x7E#8, 0x20#8 ≤ b ∧ b ≤ 0x7E#8 ∧ b ≠ 0x21#8) ∧ (admitting 18).Admits (2 + (List.replicate 16 0x7E#8).length) := by
  unfold State.Admits
  decide +kernel

theorem witness_IllFormedCommandsFail :
    encodeCommand (.mn 0x30 10) = some (Descriptor.ofRegs 0x000A0330 0) ∧ ¬(Instr.mn 0x30 10).WellFormed ∧
      State.reset.params.xbufSize ≤ 255 ∧ State.reset.busy = false := by decide +kernel

theorem witness_CapacityErrors :
    encodeCommand (.m 0x30) = some (Descriptor.ofRegs 0x330 0) ∧ (Instr.m 0x30).WellFormed ∧ State.reset.busy = false ∧
      (admitting 33).params.txbufSize < (admitting 33).txCap.toNat ∧ (admitting 2).txCap.toNat < (encode (.m 0x30)).length := by decide +kernel

theorem witness_CapacityErrors_body :
    encodeCommand (.x 0x30 (List.replicate 17 0x41) false) ≠ none ∧ (Instr.x 0x30 (List.replicate 17 0x41) false).WellFormed ∧
      State.reset.params.xbufSize < (extendedBody (.x 0x30 (List.replicate 17 0x41) false)).length := by decide +kernel

theorem witness_CommandIsItsTransact : (described 0x330 0).carried = some (.m 0x30) := by decide +kernel

theorem witness_TransactOutcome :
    (described 0x330 0).busy = false ∧ (described 0x330 0).construct true (described 0x330 0).builtFromRegs = .ok [0x30, 0x4D, 0x21] ∧
      (described 0xA0330 0).construct true (described 0xA0330 0).builtFromRegs = .error .indexOutOfRange := by decide +kernel

/-- `NopAndReservedCodes`, `ClearEffect`, `AddrCheckResult` and `CrcTextOperations` ask for a quiescent state, or a busy one. -/
theorem witness_quiescent_and_busy : State.reset.busy = false ∧ (sending .breakSent).busy = true := by decide +kernel

theorem witness_CmdFormatResult :
    (described 0x330 0).busy = false ∧ (described 0x330 0).construct false (described 0x330 0).builtFromRegs = .ok [0x30, 0x4D, 0x21] ∧
      (described 0x32A 0).construct false (described 0x32A 0).builtFromRegs = .error .invalidAddress := by decide +kernel

theorem witness_CrcComputeResult :
    (crcState 0 0 1024).busy = false ∧ (crcState 0 0 1024).crcSelects .rx ∧ (crcState 0 0 1024).crcInside .rx ∧
      (crcState 1 0 33).crcSelects .tx ∧ ¬(crcState 1 0 33).crcInside .tx ∧ (crcState 2 1 0).crcSelects .xb ∧
      ¬(crcState 2 1 0).crcInside .xb ∧ (crcState 3 0 0).crcCtl.extractLsb' 0 2 = 3 := by
  unfold State.crcSelects State.crcInside
  decide +kernel

theorem witness_CrcTextOperations :
    State.reset.busy = false ∧ dec3 ⟨0x4F, 0x71, 0x5A⟩ = some 0xFC5A ∧ dec3 ⟨0x50, 0x40, 0x40⟩ = none := by decide +kernel

theorem witness_CrcVerifyResult :
    (crcState 0 0 9).busy = false ∧ (crcState 0 0 9).crcSelects .rx ∧ (crcState 0 0 9).crcInside .rx ∧
      verifyAscii ((crcState 0 0 9).crcBytes .rx) = .ok 0xFC5A ∧ verifyAscii ((crcState 0 0 2).crcBytes .rx) = .crcDecode ∧
      (crcState 4 0 2).crcCtl.getLsbD 2 = true ∧ verifyBinary ((crcState 4 0 2).crcBytes .rx) = .crcMismatch 0 0x2B30 := by
  unfold State.crcSelects State.crcInside
  decide +kernel

theorem witness_RegisterWrites :
    { State.reset with cur := hosted 5 (.wrCsr 20 0xFFFFFFFF) }.cur.host = .wrCsr 20 0xFFFFFFFF ∧ (20 : Nat) ≠ 0 ∧ csrMask 20 ≠ 0 ∧
      csrMask 1 = 0 ∧ csrMask 28 = 0 ∧ State.reset.busy = false ∧ (sending .breakSent).busy = true := by decide +kernel

theorem witness_BufferAccesses :
    { State.reset with cur := hosted 5 (.rdBuf .tx 31) }.cur.host = .rdBuf .tx 31 ∧ (31#16).toNat < State.reset.size .tx ∧
      State.reset.size .tx ≤ (32#16).toNat ∧ { State.reset with cur := hosted 5 (.wrBuf .xb 15 1) }.cur.host = .wrBuf .xb 15 1 ∧
      (15#16).toNat < State.reset.size .xb ∧ State.reset.size .xb ≤ (16#16).toNat := by decide +kernel

theorem witness_RegisterReads : { State.reset with cur := hosted 5 (.rdCsr 28) }.cur.host = .rdCsr 28 ∧ 28 ≤ 28 := by decide +kernel

theorem witness_BusyHostPhase : (sending .retry).busy = true := by decide +kernel

/-- A quiescent and a busy state, a descriptor that spells a command and one whose `KIND` is reserved, and a `CTRL` word with another
operation. -/
theorem witness_StepRunsOperation :
    let c := hosted 5 (.wrCsr 0 1)
    (fed (described 0x330 0) c).inputs = [c] ∧ c.rst = false ∧ c.host = .wrCsr 0 1 ∧ (described 0x330 0).busy = false ∧
      (sending .breakSent).busy = true ∧ (1#32).extractLsb' 0 4 = 1 ∧ (0xFFFFFFF2#32).extractLsb' 0 4 ≠ 1 ∧
      decodeCommand (Descriptor.ofRegs 0x330 0) [] = .ok (.m 0x30) ∧
      decodeCommand (Descriptor.ofRegs 0xF30 0) [] = .error .reservedKind := by decide +kernel

theorem witness_StepOutputs :
    let s := fed (sending .commandSent) { Input.quiet 21331 with txReady := true }
    step s = .next (after s) ∧ (after s).cur.rst = false ∧ (after s).out.tx = some 0x30 := ⟨step_after (by decide +kernel), by decide +kernel, by decide +kernel⟩

theorem witness_ResetStep :
    (fed (sending .breakSent) { Input.quiet 7 with rst := true }).inputs = [{ Input.quiet 7 with rst := true }] ∧
      { Input.quiet 7 with rst := true }.rst = true := by decide +kernel

theorem witness_TransitionRelation :
    let s := fed (sending .breakSent) (Input.quiet 13000)
    step s = .next (after s) ∧ (after s).cur.rst = false := ⟨step_after (by decide +kernel), by decide +kernel⟩

theorem witness_QuiescentStays :
    let s := fed { State.reset with state := .success, done := true } (heard 5 0x30)
    step s = .next (after s) ∧ (after s).cur.rst = false ∧ s.busy = false ∧ (after s).cur.host = .idle := ⟨step_after (by decide +kernel), by decide +kernel, by decide +kernel, by decide +kernel⟩

theorem witness_BusyKeepsTheCall :
    let s := fed (sending .commandSent) (hosted 5 (.wrCsr 4 0x331))
    step s = .next (after s) ∧ (after s).cur.rst = false ∧ s.busy = true ∧ s.state ≠ .awaitingResponse := ⟨step_after (by decide +kernel), by decide +kernel, by decide +kernel, by decide +kernel⟩

theorem witness_BreakTrackingChanges :
    let s := fed (validating 0x330 .ascii7E1 [0x30, 0x0D, 0x0A]) (Input.quiet 9)
    step s = .next (after s) ∧ (after s).cur.rst = false ∧ (after s).lastAddr ≠ s.lastAddr ∧ (after s).lastValid ≠ s.lastValid :=
  ⟨step_after (by decide +kernel), by decide +kernel, by decide +kernel, by decide +kernel⟩

theorem witness_BreakTrackingChanges_failed :
    let s := fed { sending .retry with err := .timeout, retryCnt := 3, lastValid := true } (Input.quiet 9)
    step s = .next (after s) ∧ (after s).cur.rst = false ∧ (after s).lastValid ≠ s.lastValid := ⟨step_after (by decide +kernel), by decide +kernel, by decide +kernel⟩

theorem witness_OverrunIsSticky :
    let s := fed { State.reset with ovr := true } (hosted 5 (.wrCsr 0 8))
    step s = .next (after s) ∧ (after s).cur.rst = false ∧ s.ovr = true ∧ (after s).ovr = false := ⟨step_after (by decide +kernel), by decide +kernel, by decide +kernel, by decide +kernel⟩

theorem witness_OverrunIsSticky_set :
    let s := fed (sending .breakSent) (hosted 5 (.wrCsr 0 1))
    step s = .next (after s) ∧ (after s).cur.rst = false ∧ s.ovr = false ∧ (after s).ovr = true := ⟨step_after (by decide +kernel), by decide +kernel, by decide +kernel, by decide +kernel⟩

theorem witness_NeedBreakRule :
    (lastGood 0x3F 0x603 207001).lastT ≤ (lastGood 0x3F 0x603 207001).cur.now ∧ (lastGood 0x3F 0x603 207001).LastByAnswer ∧
      (lastGood 0x3F 0x603 207001).cmd0.extractLsb' 0 8 = 0x3F := by decide +kernel

/-- The clauses of a send-side step: the deadline, a transport failure, neither. -/
theorem witness_BreakSentStep :
    let s := fed (sending .breakSent) (Input.quiet 13000)
    step s = .next (after s) ∧ (after s).cur.rst = false ∧ s.state = .breakSent ∧ ¬s.pastDeadline (after s).cur.now ∧
      (after s).cur.txErr = none ∧ s.t0 ≤ (after s).cur.now ∧ s.params.tBreakMin ≤ (after s).cur.now.toNat - s.t0.toNat := by
  refine ⟨step_after (by decide +kernel), ?_⟩
  unfold State.pastDeadline
  decide +kernel

theorem witness_BreakSentStep_waits :
    let s := fed (sending .breakSent) (Input.quiet 12999)
    step s = .next (after s) ∧ (after s).cur.rst = false ∧ ¬s.pastDeadline (after s).cur.now ∧ (after s).cur.txErr = none ∧
      (after s).cur.now.toNat - s.t0.toNat < s.params.tBreakMin := by
  refine ⟨step_after (by decide +kernel), ?_⟩
  unfold State.pastDeadline
  decide +kernel

/-- A passed overall deadline, and a transport failure, in each of the three send-side states. -/
theorem witness_send_failures :
    ∀ q ∈ [FsmState.breakSent, .markingWait, .commandSent],
      let s := fed { sending q with cfg := 0xE03, abortLo := 5000 } (Input.quiet 5000)
      let r := fed (sending q) { Input.quiet 5000 with txErr := some 5 }
      step s = .next (after s) ∧ (after s).cur.rst = false ∧ s.pastDeadline (after s).cur.now ∧
        step r = .next (after r) ∧ (after r).cur.rst = false ∧ ¬r.pastDeadline (after r).cur.now ∧ (after r).cur.txErr = some 5 := by
  unfold State.pastDeadline
  intro q h
  simp only [List.mem_cons, List.not_mem_nil, or_false] at h
  rcases h with rfl | rfl | rfl <;> exact ⟨step_after (by decide +kernel), by decide +kernel, by decide +kernel, step_after (by decide +kernel), by decide +kernel, by decide +kernel, by decide +kernel⟩

theorem witness_MarkingWaitStep :
    let s := fed (sending .markingWait) (Input.quiet 9330)
    step s = .next (after s) ∧ (after s).cur.rst = false ∧ s.state = .markingWait ∧ ¬s.pastDeadline (after s).cur.now ∧
      (after s).cur.txErr = none ∧ s.t0 ≤ (after s).cur.now ∧ s.params.tMark ≤ (after s).cur.now.toNat - s.t0.toNat := by
  refine ⟨step_after (by decide +kernel), ?_⟩
  unfold State.pastDeadline
  decide +kernel

theorem witness_CommandSentStep :
    let s := fed { sending .commandSent with txPtr := 2 } { Input.quiet 37997 with txReady := true }
    step s = .next (after s) ∧ (after s).cur.rst = false ∧ s.state = .commandSent ∧ ¬s.pastDeadline (after s).cur.now ∧
      (after s).cur.txErr = none ∧ s.txPtr < s.txLen ∧ (after s).cur.txReady = true := by
  refine ⟨step_after (by decide +kernel), ?_⟩
  unfold State.pastDeadline
  decide +kernel

theorem witness_CommandSentStep_done :
    let s := fed { sending .commandSent with txPtr := 3 } { Input.quiet 46331 with txDone := true }
    step s = .next (after s) ∧ (after s).cur.rst = false ∧ ¬s.pastDeadline (after s).cur.now ∧ (after s).cur.txErr = none ∧
      ¬s.txPtr < s.txLen ∧ (after s).cur.txDone = true ∧ (after s).cur.now.toNat + tResp s.params s.tOvr s.descriptor < 2 ^ 64 := by
  refine ⟨step_after (by decide +kernel), ?_⟩
  unfold State.pastDeadline
  decide +kernel

theorem witness_DeadlineBeatsByte :
    let s := fed (listening [0x30]) (heard 946331 0x0A)
    step s = .next (after s) ∧ (after s).cur.rst = false ∧ s.state = .awaitingResponse ∧ ¬s.pastDeadline (after s).cur.now ∧
      s.responseLate (after s).cur.now := by
  refine ⟨step_after (by decide +kernel), ?_⟩
  unfold State.pastDeadline State.responseLate
  decide +kernel

theorem witness_DeadlineBeatsByte_abort :
    let s := fed { listening [0x30] with cfg := 0xE03, abortLo := 5000 } (heard 5000 0x0A)
    step s = .next (after s) ∧ (after s).cur.rst = false ∧ s.state = .awaitingResponse ∧ s.pastDeadline (after s).cur.now := by
  refine ⟨step_after (by decide +kernel), ?_⟩
  unfold State.pastDeadline
  decide +kernel

/-- One tick before the deadline: a transport error, a parity error, silence. -/
theorem witness_ReceiveErrors :
    ∀ e ∈ [RxEvent.err 5, .byte 0x31, .nothing],
      let s := fed (listening [0x30]) { Input.quiet 946330 with rx := e }
      step s = .next (after s) ∧ (after s).cur.rst = false ∧ s.state = .awaitingResponse ∧ ¬s.pastDeadline (after s).cur.now ∧
        ¬s.responseLate (after s).cur.now ∧ (after s).cur.rx = e ∧ charOf s.framing 0x31 = none := by
  unfold State.pastDeadline State.responseLate
  intro e h
  simp only [List.mem_cons, List.not_mem_nil, or_false] at h
  rcases h with rfl | rfl | rfl <;> exact ⟨step_after (by decide +kernel), by decide +kernel, by decide +kernel, by decide +kernel, by decide +kernel, by decide +kernel, by decide +kernel⟩

theorem witness_AsciiByteStored :
    let s := fed (listening [0x30]) (heard 946330 0x8D)
    step s = .next (after s) ∧ (after s).cur.rst = false ∧ s.state = .awaitingResponse ∧ ¬s.pastDeadline (after s).cur.now ∧
      ¬s.responseLate (after s).cur.now ∧ s.framing = .ascii7E1 ∧ (after s).cur.rx = .byte 0x8D ∧ charOf .ascii7E1 0x8D = some 0x0D := by
  refine ⟨step_after (by decide +kernel), ?_⟩
  unfold State.pastDeadline State.responseLate
  decide +kernel

theorem witness_BinaryByteStored :
    let s := fed (listeningBinary [0x30, 0x02] 0) (heard 962996 0x00)
    step s = .next (after s) ∧ (after s).cur.rst = false ∧ s.state = .awaitingResponse ∧ ¬s.pastDeadline (after s).cur.now ∧
      ¬s.responseLate (after s).cur.now ∧ s.framing = .binary8N1 ∧ (after s).cur.rx = .byte 0x00 := by
  refine ⟨step_after (by decide +kernel), ?_⟩
  unfold State.pastDeadline State.responseLate
  decide +kernel

/-- Frames that fail in the address, the terminator, the CRC's characters and the CRC, in both formats. -/
theorem witness_ValidationFailures :
    let s := fed (validating 0x10000A30 .ascii7E1 [0x30, 0x41, 0x50, 0x41, 0x0D, 0x0A]) (Input.quiet 9)
    step s = .next (after s) ∧ (after s).cur.rst = false ∧ s.state = .validating ∧ addrOk s.descriptor (s.read .rx 0) = true ∧
      s.fmt = .ascii7E1 ∧ crcMode s.descriptor = .ascii ∧ dec3 ⟨0x41, 0x50, 0x41⟩ = some 0x1401 ∧
      crc16 (s.readBytes .rx 0 1) ≠ 0x1401 := ⟨step_after (by decide +kernel), by decide +kernel⟩

theorem witness_ValidationFailures_others :
    let s := validating 0x330 .ascii7E1 [0x31, 0x0A]
    let r := fed (validating 0xD30 .binary8N1 [0x30, 0, 0, 0, 0x00, 0x0F]) (Input.quiet 9)
    addrOk s.descriptor (s.read .rx 0) = false ∧ dec3 ⟨0x41, 0x50, 0x21⟩ = none ∧ step r = .next (after r) ∧ r.fmt = .binary8N1 ∧
      crc16 (r.readBytes .rx 0 4) ≠ r.read .rx 5 ++ r.read .rx 4 := ⟨by decide +kernel, by decide +kernel, step_after (by decide +kernel), by decide +kernel, by decide +kernel⟩

theorem witness_ValidationSuccess :
    let s := fed (validating 0x10000A30 .ascii7E1 [0x30, 0x41, 0x50, 0x40, 0x0D, 0x0A]) (Input.quiet 9)
    step s = .next (after s) ∧ (after s).cur.rst = false ∧ s.state = .validating ∧ addrOk s.descriptor (s.read .rx 0) = true ∧
      s.fmt = .ascii7E1 ∧ 6 ≤ s.rxLen.toNat ∧ s.read .rx 4 = 0x0D#8 ∧ s.read .rx 5 = 0x0A#8 ∧ crcMode s.descriptor = .ascii ∧
      dec3 ⟨s.read .rx 1, s.read .rx 2, s.read .rx 3⟩ = some (crc16 (s.readBytes .rx 0 1)) := ⟨step_after (by decide +kernel), by decide +kernel⟩

theorem witness_ValidationSuccess_others :
    let s := fed (validating 0x330 .ascii7E1 [0x30, 0x0D, 0x0A]) (Input.quiet 9)
    let r := fed (validating 0xD30 .binary8N1 [0x30, 0, 0, 0, 0x0F, 0x00]) (Input.quiet 9)
    step s = .next (after s) ∧ crcMode s.descriptor = .none ∧ s.rxLen.toNat = 3 ∧ step r = .next (after r) ∧ r.fmt = .binary8N1 ∧
      crcMode r.descriptor = .binary ∧ crc16 (r.readBytes .rx 0 4) = r.read .rx 5 ++ r.read .rx 4 :=
  ⟨step_after (by decide +kernel), by decide +kernel, by decide +kernel, step_after (by decide +kernel), by decide +kernel, by decide +kernel, by decide +kernel⟩

theorem witness_RetryStep :
    let s := fed { sending .retry with err := .timeout, retryCnt := 2 } (Input.quiet 9)
    let r := fed { sending .retry with err := .timeout, retryCnt := 3 } (Input.quiet 9)
    step s = .next (after s) ∧ (after s).cur.rst = false ∧ s.state = .retry ∧ s.mayRetry ∧ s.retryCnt < s.cfg.extractLsb' 0 8 ∧
      step r = .next (after r) ∧ ¬(r.mayRetry ∧ r.retryCnt < r.cfg.extractLsb' 0 8) := by
  unfold State.mayRetry
  exact ⟨step_after (by decide +kernel), by decide +kernel, by decide +kernel, by decide +kernel, by decide +kernel, step_after (by decide +kernel), by decide +kernel⟩

theorem witness_InvAtReset : { Params.suggested with tInterbyte := 4294967295, txbufSize := 65535, xbufSize := 255 }.Valid := by decide +kernel

/-- `0M!` in its break has the invariant, and a step from there answers a next state: `InvKept` and `InvNeverStops`. -/
theorem witness_InvKept :
    let s := fed (sending .breakSent) (Input.quiet 13000)
    s.Inv ∧ step s = .next (after s) :=
  ⟨by constructor <;> decide +kernel, step_after (by decide +kernel)⟩

/-- The step of `s` as the environment sees it, the line marking after it. -/
def seen (s : State) : EnvStep where
  before := s
  after := after s
  sent := []
  line := .carrying []
  source := .noise
  meant := 0
  announced := 0

/-- A busy step in which the host reads a register, and a quiescent one in which it writes one. -/
theorem witness_HandsOffHost :
    let s := fed (sending .breakSent) (hosted 2000 (.rdCsr 1))
    let r := fed State.reset (hosted 5 (.wrCsr 3 0))
    step s = .next (after s) ∧ (after s).cur.rst = false ∧ s.busy = true ∧ (seen s).handsOff = true ∧ step r = .next (after r) ∧
      (seen r).handsOff = true := by
  refine ⟨step_after (by decide +kernel), ?_, ?_, ?_, step_after (by decide +kernel), ?_⟩ <;> decide +kernel

/-! ## The premises on the environment (R56, R60, R376 to R383) -/

/-- The step of `0M!` that hands over `0`, and what the transport has sent by the next one. -/
def handing (sent : List (Framing × Byte)) : EnvStep :=
  { seen (fed { sending .commandSent with cur := Input.quiet 21330 } { Input.quiet 21331 with txReady := true }) with
    sent := sent
    line := .carrying [⟨21340, 29673, false⟩] }

/-- An environment that has nothing pending, the line marking since the end of the break. -/
def settled : EnvFacts where
  queue := []
  marking := some 13000
  program := []
  unread := false
  trusted := true
  breakLimit := 100000
  markLimit := 100000
  abortLo := false
  abortHi := false
  memory := ⟨[], [], []⟩

/-- The premises can be met: by the step that hands over the first byte. -/
theorem witness_premises : TransportPremises settled [handing []] ∧ HostDuties settled [handing []] := by
  refine ⟨?_, ?_⟩ <;> constructor <;> decide +kernel

/-- Order, framing and completeness of what the transport sends (R60 (b), (c)). -/
theorem test_transport_premises :
    sendsInOrder [] [handing [(.ascii7E1, 0x30)]] = true ∧ sendsInOrder [] [handing [(.binary8N1, 0x30)]] = false ∧
      sendsInOrder [(.ascii7E1, 0xB1)] [handing [(.ascii7E1, 0x30)]] = false ∧ doneWhenSent [(.ascii7E1, 0xB1)] [handing []] = true ∧
      doneWhenSent [] [handing [], { handing [] with after := { State.reset with cur := { Input.quiet 9 with txDone := true } } }] =
        false := by decide +kernel

/-- R377 and R379 refuse what they forbid. -/
theorem test_host_duties :
    let r := fed (sending .commandSent) (heard 2000 0x30)
    (seen (fed (sending .commandSent) (hosted 2000 (.wrCsr 4 0)))).handsOff = false ∧
      EnvStep.listensInTime { seen r with source := .sensor } = false ∧ EnvStep.listensInTime { seen r with source := .echo } = true := by
  decide +kernel

/-- R378: a second operation before the result of the first is read. -/
theorem test_reads_results :
    let a := fed State.reset (hosted 5 (.wrCsr 0 0))
    let b := fed (after a) (hosted 6 (.rdCsr 2))
    readsResults false [seen a, seen a] = false ∧ readsResults false [seen a, seen b, seen a] = true := by decide +kernel

/-- R381: a break held too long, and marking that goes on in `CommandSent` because the transport is not ready. -/
theorem test_upper_limits :
    (seen (fed (sending .breakSent) (Input.quiet 3000))).breaksWithin 1999 = false ∧
      marksWithin 100 [] (some 2900) [seen (fed (sending .commandSent) (Input.quiet 3000))] = true ∧
      marksWithin 100 [] (some 2900)
        [seen (fed (sending .commandSent) (Input.quiet 3000)), seen (fed (sending .commandSent) (Input.quiet 3001))] = false ∧
      marksWithin 100 [(.ascii7E1, 0x21)] (some 2900) [seen (fed { sending .commandSent with txPtr := 3 } (Input.quiet 3001))] = false := by
  decide +kernel

/-- R381: marking past the limit that begins and ends between two steps, before a character and between two. -/
theorem test_upper_limits_between_steps :
    let at3000 := seen (fed (sending .commandSent) (Input.quiet 3000))
    let marks (spans : List LineSpan) := marksWithin 100 [] (some 2900) [{ at3000 with line := .carrying spans }]
    marks [⟨3000, 3050, true⟩, ⟨3150, 3200, true⟩] = true ∧ marks [⟨3001, 3050, true⟩] = false ∧
      marks [⟨3000, 3050, true⟩, ⟨3151, 3200, true⟩] = false ∧
      spansBetween 3000 3200 [⟨3000, 3050, true⟩, ⟨3150, 3200, true⟩] = true ∧ spansBetween 3000 3199 [⟨3150, 3200, true⟩] = false := by
  decide +kernel

/-- R381: the line after a step is judged by what the step leaves to be sent. A gap after the step that enters `MarkingWait`, and after
the one that enters `CommandSent`, counts, whoever ends it; one after the last byte of the command, or after an abort, does not. -/
theorem test_upper_limits_at_transitions :
    let marks (queue : List (Framing × Byte)) (s : State) (spans : List LineSpan) :=
      marksWithin 100 queue (some 12990) [{ seen s with line := .carrying spans }]
    let late := [⟨13200, 13210, false⟩]
    let last := fed { sending .commandSent with txPtr := 3 } (Input.quiet 13000)
    let aborted := fed { sending .markingWait with t0 := 12990, cfg := 0xE03, abortLo := 5 } (Input.quiet 13000)
    let toMarking := fed { sending .breakSent with t0 := 1000 } (Input.quiet 13000)
    let toSending := fed { sending .markingWait with t0 := 1000 } (Input.quiet 13000)
    (after toMarking).state = .markingWait ∧ marks [] toMarking late = false ∧
      (after toSending).state = .commandSent ∧ marks [] toSending late = false ∧
      (after aborted).state = .failed ∧ marks [] aborted late = true ∧
      marks [(.ascii7E1, 0x21)] last late = false ∧
      marks [(.ascii7E1, 0x21)] last [⟨13000, 13050, true⟩, ⟨13200, 13210, false⟩] = true := by decide +kernel

/-- R370: an access of a reset step is not served: it writes nothing, starts nothing, and what was written before is gone. -/
theorem test_reset_step_access :
    let reset (h : HostAccess) := seen (fed (described 0x330 0) { hosted 5 h with rst := true })
    let armed := seen (fed { described 0x330 0 with cfg := 0xE03, abortLo := 6 } (hosted 5 (.wrCsr 0 1)))
    (reset (.wrCsr 0 1)).transacts = none ∧ (reset (.wrCsr 0 1)).operates = false ∧ (reset (.wrCsr 9 6)).writes 9 = false ∧
      freshDeadlines true true [reset .idle, armed] = false := by decide +kernel

/-- R382: a stale `ABORT_AT`, one of which only a half is written, and a `T_OVR` of an earlier transaction; each transaction has its own. -/
theorem test_fresh_deadlines :
    let start (s : State) := seen (fed s (hosted 5 (.wrCsr 0 1)))
    let armed (t : Word) : State := { described 0x330 0 with cfg := 0xE03, abortLo := t }
    freshDeadlines true true [start (armed 5)] = false ∧ freshDeadlines true true [start (armed 6)] = true ∧
      freshDeadlines false false [seen (fed (armed 6) (hosted 4 (.wrCsr 9 6))), start (armed 6)] = false ∧
      freshDeadlines false false [start { described 0x330 0 with tOvr := 7 }] = false ∧
      freshDeadlines false false
        [{ start { described 0x330 0 with tOvr := 7 } with meant := 7 }, start (described 0x330 0)] = true := by decide +kernel

/-- R383: `CRC_EXPECT` on `0D0!` follows the command that started the measurement, also when the `Dn` is repeated after a failure; data
are not asked for early. -/
theorem test_protocol_data :
    let fresh : HostMemory := ⟨[], [], []⟩
    let mc := fresh.succeeded (Descriptor.ofRegs 0x00000430 0) 7
    let d := Descriptor.ofRegs 0x00000A30 0
    mc.permits 7 d = false ∧ mc.permits 7 { d with crcExpect := true } = true ∧ mc.permits 6 { d with crcExpect := true } = false ∧
      (mc.failed d).permits 7 d = false ∧ (mc.failed d).permits 7 { d with crcExpect := true } = true ∧
      (mc.failed (Descriptor.ofRegs 0x00000330 0)).permits 7 d = true := by decide +kernel

/-- R383 and R183: a sensor that has moved is addressed by its new address, which may be the old one; after a failure neither is known. -/
theorem test_protocol_moved :
    let fresh : HostMemory := ⟨[], [], []⟩
    let moved := fresh.succeeded (Descriptor.ofRegs 0x00000230 0x00310000) 7
    moved.permits 7 (Descriptor.ofRegs 0x330 0) = false ∧ moved.permits 7 (Descriptor.ofRegs 0x331 0) = true ∧
      (fresh.succeeded (Descriptor.ofRegs 0x00000230 0x00300000) 7).permits 7 (Descriptor.ofRegs 0x330 0) = true ∧
      (moved.failed (Descriptor.ofRegs 0x331 0)).permits 7 (Descriptor.ofRegs 0x330 0) = true := by decide +kernel

end Sys2Proof.Tests
end

/-! # Spellings and index types (R10, R108, R163 (b), R172): O7 -/

namespace Sys2Proof.Machine

theorem digit_eq_ofNat (n : Fin 10) : digit n = BitVec.ofNat 8 (48 + n.val) :=
  (BitVec.ofNat_add 48 n.val).symm

/-- A three-digit spelling, most significant digit first, each digit as its character code. -/
theorem ddd_eq_codes (n : Fin 1000) :
    ddd n = [BitVec.ofNat 8 (48 + n.val / 100), BitVec.ofNat 8 (48 + n.val / 10 % 10), BitVec.ofNat 8 (48 + n.val % 10)] := by
  have hundreds : n.val / 100 % 10 = n.val / 100 := Nat.mod_eq_of_lt (by omega)
  simp [ddd, digitAt, digit_eq_ofNat, hundreds]

/-- The spelling without leading zeros is the end of the three-digit one. -/
theorem dec_eq_drop_ddd (n : Fin 1000) :
    dec n = if 100 ≤ n.val then ddd n else if 10 ≤ n.val then (ddd n).drop 1 else (ddd n).drop 2 := by
  unfold dec ddd
  by_cases h100 : 100 ≤ n.val
  · rw [if_neg (by omega), if_neg (by omega), if_pos h100]
  · by_cases h10 : 10 ≤ n.val
    · rw [if_neg (by omega), if_pos (by omega), if_neg h100, if_pos h10]; rfl
    · rw [if_pos (by omega), if_neg h100, if_neg h10]; rfl

theorem setIndex_ofField_eq_none {f : BitVec 10} : SetIndex.ofField f = none ↔ 9 < f.toNat := by
  simp only [SetIndex.ofField, dite_eq_right_iff, reduceCtorEq, imp_false, not_lt]; omega

theorem contIndex_ofField_eq_none {f : BitVec 10} : ContIndex.ofField f = none ↔ 9 < f.toNat := by
  simp only [ContIndex.ofField, dite_eq_right_iff, reduceCtorEq, imp_false, not_lt]; omega

theorem dataIndex_ofField_eq_none {f : BitVec 10} : DataIndex.ofField f = none ↔ 999 < f.toNat := by
  simp only [DataIndex.ofField, dite_eq_right_iff, reduceCtorEq, imp_false, not_lt]; omega

theorem paramNumber_ofField_eq_none {f : BitVec 10} : ParamNumber.ofField f = none ↔ f.toNat = 0 ∨ 999 < f.toNat := by
  by_cases h : f.toNat < 1000
  · by_cases h0 : f.toNat = 0 <;> simp [ParamNumber.ofField, h, h0, Fin.ext_iff]
    omega
  · simp [ParamNumber.ofField, h]; omega

/-- The digit of a number that stands in a 10-bit field. -/
theorem digit_eq_field {n : Fin 10} {f : BitVec 10} (h : n.val = f.toNat) : digit n = 0x30#8 + f.setWidth 8 := by
  apply BitVec.eq_of_toNat_eq
  simp [digit, h]

theorem setIndex_text_eq {f : BitVec 10} {n : SetIndex} (h : n.value.val = f.toNat) :
    n.text = if f = 0 then [] else [0x30#8 + f.setWidth 8] := by
  have hzero : n.value = 0 ↔ f = 0 := by
    rw [Fin.ext_iff, ← BitVec.toNat_inj, h]; rfl
  simp only [SetIndex.text, hzero, digit_eq_field h]

/-- Settles O7: the spellings digit by digit, and each index type by what its check accepts. -/
theorem decimalSpelling : Obligations.DecimalSpelling := by
  refine ⟨fun n => ⟨ddd_eq_codes n, dec_eq_drop_ddd n⟩, fun f => ⟨setIndex_ofField_eq_none, contIndex_ofField_eq_none,
    dataIndex_ofField_eq_none, paramNumber_ofField_eq_none, fun n h => ?_, fun n h => ?_, fun n h => ?_, fun p h => ?_⟩⟩
  · have hv := setIndex_ofField.1 h
    exact ⟨hv, setIndex_text_eq hv⟩
  · have hv := contIndex_ofField.1 h
    exact ⟨hv, by rw [ContIndex.text, digit_eq_field hv]⟩
  · exact ⟨dataIndex_ofField.1 h, rfl⟩
  · exact ⟨paramNumber_ofField.1 h, rfl⟩

end Sys2Proof.Machine

/-! # The command a descriptor spells is its `TRANSACT` (R175, R176, R294) -/

namespace Sys2Proof.Machine

/-! ## Reading a buffer -/

theorem read_of_buffer {s t : State} {sp : Space} (h : t.buffer sp = s.buffer sp) (i : Nat) : t.read sp i = s.read sp i := by
  simp only [State.read, h]

theorem readBytes_of_buffer {s t : State} {sp : Space} (h : t.buffer sp = s.buffer sp) (i n : Nat) :
    t.readBytes sp i n = s.readBytes sp i n := by
  induction n generalizing i with
  | zero => rfl
  | succ k ih => simp only [State.readBytes, read_of_buffer h, ih]

/-! ## The construction check, kind by kind -/

theorem ofCode_eq_some {b : Byte} {k : Kind} (h : Kind.ofCode b = some k) : b = k.code := by
  apply BitVec.eq_of_toNat_eq
  unfold Kind.ofCode at h
  split at h <;> cases h <;> assumption

theorem respFmt_eq {d : Descriptor} {k : Kind} (h : Kind.ofCode d.kind = some k) :
    respFmt d = if k = .db then .binary8N1 else .ascii7E1 := by
  rw [respFmt, ofCode_eq_some h]
  cases k <;> rfl

theorem metaForm_cases (m : BitVec 2) : m = 0 ∨ m = 1 ∨ m = 2 ∨ m = 3 := by
  revert m; decide

/-- The wildcard is the one address that is no sensor address (R106). -/
theorem isSensorAddr_iff {c : Byte} : isSensorAddr c = true ↔ isAddr c = true ∧ c ≠ Ascii.query := by
  revert c; decide

theorem withIndex_map {α β : Type} (g : α → β) (n : Option α) (f : β → Except ErrKind (List Byte)) :
    withIndex (n.map g) f = withIndex n fun a => f (g a) := by
  cases n <;> rfl

/-- A set index 0 is the form without the digit (R108, R121). -/
theorem withIndex_setIndex (n : BitVec 10) (f : SetIndex → Except ErrKind (List Byte)) :
    withIndex (SetIndex.ofField n) f = if n = 0 then f ⟨0⟩ else withSetDigit n f := by
  unfold withSetDigit
  split
  · subst n; rfl
  · rfl

/-- What the construction check asks of the fields that follow the address, for a descriptor of a legal kind and form
(R175 steps 4 to 7). -/
def checkedFields (xbufSize : Nat) (d : Descriptor) (k : Kind) (body : List Byte) : Except ErrKind (List Byte) :=
  if k = .chaddr ∧ isSensorAddr d.newAddr = false then .error .invalidAddress
  else
    withIndex (Family.ofFields k d.idx) fun f =>
      withIndex (Form.ofFields d.metaForm d.param) fun form =>
        if k = .x ∧ xbufSize < d.xlen.toNat then .error .illegalEncoding
        else if k = .x ∧ body.all isBodyByte = false then .error .illegalEncoding
        else .ok (wire d.addr d.newAddr f form body)

/-- The kind has a form with this `META` (R122, R175 step 2). -/
abbrev hasForm (k : Kind) (m : BitVec 2) : Prop :=
  m ≠ 3 ∧ (m = 1 → hasIdentify k = true) ∧ (m = 2 → hasIdentifyParam k = true)

/-- A descriptor of a legal kind and form goes on to the check of its addresses (R175 step 3). -/
theorem checkedWire_eq {xbufSize : Nat} {d : Descriptor} {k : Kind} {body : List Byte} (hk : Kind.ofCode d.kind = some k)
    (hm : hasForm k d.metaForm) :
    checkedWire xbufSize d body =
      if isAddr d.addr = false then .error .invalidAddress
      else if d.addr = Ascii.query ∧ ¬(k = .ack ∧ d.metaForm = 0) then .error .invalidAddress
      else checkedFields xbufSize d k body := by
  obtain ⟨h3, h1, h2⟩ := hm
  have n1 : ¬(d.metaForm = 1 ∧ hasIdentify k = false) := fun h => by simp [h1 h.1] at h
  have n2 : ¬(d.metaForm = 2 ∧ hasIdentifyParam k = false) := fun h => by simp [h2 h.1] at h
  unfold checkedWire
  simp only [hk, if_neg h3, if_neg n1, if_neg n2]
  rfl

/-- A descriptor that is no `ACK` is checked as a command to one sensor (R107). -/
theorem checkedWire_sensor {xbufSize : Nat} {d : Descriptor} {k : Kind} {body : List Byte} (hk : Kind.ofCode d.kind = some k)
    (hm : hasForm k d.metaForm) (hack : ¬(k = .ack ∧ d.metaForm = 0)) :
    checkedWire xbufSize d body = withAddr d.addr (checkedFields xbufSize d k body) := by
  rw [checkedWire_eq hk hm, withAddr]
  by_cases ha : isAddr d.addr = true
  · by_cases hq : d.addr = Ascii.query
    · rw [if_neg (by simp [ha]), if_pos ⟨hq, hack⟩, if_neg fun h => (isSensorAddr_iff.1 h).2 hq]
    · rw [if_neg (by simp [ha]), if_neg fun h => hq h.1, if_pos (isSensorAddr_iff.2 ⟨ha, hq⟩)]
  · rw [if_pos (by simpa using ha), if_neg fun h => ha (isSensorAddr_iff.1 h).1]

/-- `ACK` takes the wildcard too, as `QUERY` (R107, R180, R181). -/
theorem checkedWire_ack {xbufSize : Nat} {d : Descriptor} {body : List Byte} (hk : Kind.ofCode d.kind = some .ack)
    (hm : d.metaForm = 0) :
    checkedWire xbufSize d body =
      if d.addr = Ascii.query then .ok [Ascii.query, Ascii.bang] else withAddr d.addr (.ok [d.addr, Ascii.bang]) := by
  have hfields : checkedFields xbufSize d .ack body = .ok [d.addr, Ascii.bang] := by
    unfold checkedFields; rw [hm]; rfl
  rw [checkedWire_eq hk (by simp [hasForm, hm]), hfields, withAddr, if_neg (c := _ ∧ _) (by simp [hm])]
  by_cases hq : d.addr = Ascii.query
  · rw [if_pos hq, hq]; rfl
  · have hs : isSensorAddr d.addr = isAddr d.addr := by
      rw [Bool.eq_iff_iff, isSensorAddr_iff]; simp only [hq, ne_eq, not_false_eq_true, and_true]
    rw [if_neg hq, hs]
    cases isAddr d.addr <;> rfl

/-- A kind with neither a second address nor a body passes by its index and its form alone. -/
theorem checkedFields_indexed {xbufSize : Nat} {d : Descriptor} {k : Kind} {body : List Byte} (hc : k ≠ .chaddr) (hx : k ≠ .x) :
    checkedFields xbufSize d k body =
      withIndex (Family.ofFields k d.idx) fun f =>
        withIndex (Form.ofFields d.metaForm d.param) fun form => .ok (wire d.addr d.newAddr f form body) := by
  simp only [checkedFields, hc, hx, false_and, if_false]

theorem checkedFields_chaddr {xbufSize : Nat} {d : Descriptor} {body : List Byte} (hm : d.metaForm = 0) :
    checkedFields xbufSize d .chaddr body =
      withAddr d.newAddr (.ok [d.addr, Ascii.A, d.newAddr, Ascii.bang]) := by
  unfold checkedFields withAddr
  rw [hm]
  cases isSensorAddr d.newAddr <;> rfl

theorem checkedFields_x {xbufSize : Nat} {d : Descriptor} {body : List Byte} (hm : d.metaForm = 0)
    (hlen : body.length = d.xlen.toNat) :
    checkedFields xbufSize d .x body = withBody xbufSize body (.ok ([d.addr] ++ body ++ [Ascii.bang])) := by
  unfold checkedFields withBody
  rw [hm, ← hlen]
  by_cases hfit : body.length ≤ xbufSize
  · have hlt : ¬xbufSize < body.length := by omega
    cases hall : body.all isBodyByte <;> simp [hfit, hlt, withIndex, Family.ofFields, Form.ofFields, wire, wireBody]
  · have hlt : xbufSize < body.length := by omega
    simp [hfit, hlt, withIndex, Family.ofFields, Form.ofFields]

/-! ## The commands of the three forms -/

section
variable {s : State} {d : Descriptor} {k : Kind} {body : List Byte}

/-- What one construction check reduces to, for a kind that has only an index and a form. -/
theorem checkedWire_indexed {xbufSize : Nat} (hk : Kind.ofCode d.kind = some k) (hm : hasForm k d.metaForm)
    (hack : ¬(k = .ack ∧ d.metaForm = 0)) (hc : k ≠ .chaddr) (hx : k ≠ .x) :
    checkedWire xbufSize d body =
      withAddr d.addr (withIndex (Family.ofFields k d.idx) fun f =>
        withIndex (Form.ofFields d.metaForm d.param) fun form => .ok (wire d.addr d.newAddr f form body)) := by
  rw [checkedWire_sensor hk hm hack, checkedFields_indexed hc hx]

theorem form_command : Form.ofFields 0 d.param = some .command := rfl
theorem form_identify : Form.ofFields 1 d.param = some .identify := rfl
theorem form_identifyParam : Form.ofFields 2 d.param = (ParamNumber.ofField d.param).map .identifyParam := rfl

theorem withIndex_some {α : Type} (a : α) (f : α → Except ErrKind (List Byte)) : withIndex (some a) f = f a := rfl

/-- The commands of `META` = 0 (R126). -/
theorem exec_decodePlain (hk : Kind.ofCode d.kind = some k) (hm : d.metaForm = 0) (hlen : body.length = d.xlen.toNat) :
    exec (decodePlain k d body) s = issue s (respFmt d) (checkedWire s.params.xbufSize d body) := by
  have hform : hasForm k d.metaForm := by simp [hasForm, hm]
  rw [respFmt_eq hk]
  cases k
  case ack => rw [checkedWire_ack hk hm]; simp only [decodePlain]; split <;> rfl
  case chaddr => rw [checkedWire_sensor hk hform (by simp), checkedFields_chaddr hm]; rfl
  case x => rw [checkedWire_sensor hk hform (by simp), checkedFields_x hm hlen]; rfl
  all_goals
    rw [checkedWire_indexed hk hform (by simp) (by simp) (by simp), hm]
    simp only [Family.ofFields, form_command, withIndex_map, withIndex_some, withIndex_setIndex, decodePlain]
  case ident | v | r | rc | d | ha | hb | db => rfl
  all_goals split <;> rfl

/-- The commands of `META` = 1 (R126). -/
theorem exec_decodeIdentify {i : Instr} (hk : Kind.ofCode d.kind = some k) (hm : d.metaForm = 1)
    (hi : decodeIdentify k d = .ok i) : exec i s = issue s (respFmt d) (checkedWire s.params.xbufSize d body) := by
  have hform (h : hasIdentify k = true) : hasForm k d.metaForm := by simp [hasForm, hm, h]
  rw [respFmt_eq hk]
  cases k
  all_goals simp only [decodeIdentify, reduceCtorEq] at hi
  all_goals
    rw [checkedWire_indexed hk (hform rfl) (by simp) (by simp) (by simp), hm]
    simp only [Family.ofFields, form_identify, withIndex_map, withIndex_some, withIndex_setIndex]
  case v | ha | hb => cases hi; rfl
  all_goals split at hi <;> cases hi <;> simp only [*, if_true, if_false] <;> rfl

/-- The commands of `META` = 2 (R126). -/
theorem exec_decodeIdentifyParam {i : Instr} (hk : Kind.ofCode d.kind = some k) (hm : d.metaForm = 2)
    (hi : decodeIdentifyParam k d = .ok i) : exec i s = issue s (respFmt d) (checkedWire s.params.xbufSize d body) := by
  have hform (h : hasIdentifyParam k = true) : hasForm k d.metaForm := by simp [hasForm, hm, h]
  rw [respFmt_eq hk]
  cases k
  all_goals simp only [decodeIdentifyParam, reduceCtorEq] at hi
  all_goals
    rw [checkedWire_indexed hk (hform rfl) (by simp) (by simp) (by simp), hm]
    simp only [Family.ofFields, form_identifyParam, withIndex_map, withIndex_some, withIndex_setIndex]
  case v | r | rc | ha | hb => cases hi; rfl
  all_goals split at hi <;> cases hi <;> simp only [*, if_true, if_false] <;> rfl

/-- Whatever the descriptor spells, its own checks, wire string and response format are those the descriptor gives (R176). -/
theorem exec_decodeCommand {i : Instr} (hlen : body.length = d.xlen.toNat) (hi : decodeCommand d body = .ok i) :
    exec i s = issue s (respFmt d) (checkedWire s.params.xbufSize d body) := by
  unfold decodeCommand at hi
  cases hk : Kind.ofCode d.kind with
  | none => simp [hk] at hi
  | some k =>
    rw [hk] at hi
    rcases metaForm_cases d.metaForm with hm | hm | hm | hm <;> simp only [hm] at hi
    · cases hi; exact exec_decodePlain hk hm hlen
    · exact exec_decodeIdentify hk hm hi
    · exact exec_decodeIdentifyParam hk hm hi
    · cases hi

end

/-- The construction check over the registers reads the parameters, the descriptor registers and `XBUF`, and nothing else. -/
theorem builtFromRegs_congr {s t : State} (hp : t.params = s.params) (h0 : t.cmd0 = s.cmd0) (h1 : t.cmd1 = s.cmd1)
    (hx : t.xbuf = s.xbuf) : t.builtFromRegs = s.builtFromRegs := by
  have hd : t.descriptor = s.descriptor := by rw [State.descriptor, h0, h1]; rfl
  have hbody : t.xbody = s.xbody := by rw [State.xbody, hd]; exact readBytes_of_buffer (sp := .xb) hx _ _
  rw [State.builtFromRegs, hp, hd, hbody]; rfl

theorem execTransact_eq_issue (s : State) : execTransact s = issue s (respFmt s.descriptor) s.builtFromRegs := by
  have hb : s.accepted.builtFromRegs = s.builtFromRegs := builtFromRegs_congr rfl rfl rfl rfl
  unfold execTransact issue accept
  simp only [hb]; rfl

theorem exec_carried {s : State} {i : Instr} (h : s.carried = some i) : exec i s = execTransact s := by
  rw [execTransact_eq_issue]
  unfold State.carried at h
  split at h
  next j hj =>
    cases h
    exact exec_decodeCommand (readBytes_length s .xb 0 _) hj
  next => cases h

/-- The instruction a write to `CTRL` selects acts as the operation of its bits 3:0 (R176, R293, R294). -/
theorem exec_fetch (s : State) (v : Word) : exec (s.fetch v) s = exec (decodeOp v) s := by
  unfold State.fetch
  split
  next hv =>
    rw [hv]
    split
    next i hi => exact exec_carried hi
    next => rfl
  next => rfl

end Sys2Proof.Machine

/-! # The invariant by what a state is doing: at rest, or in a call (R23, R77, R84) -/

namespace Sys2Proof.Machine

variable {s t : State}

/-! ## What the registers' clauses read -/

/-- The construction check over the registers reads the parameters, the capacities, the descriptor registers and `XBUF`. -/
theorem construct_congr {b : Bool} {r : Except ErrKind (List Byte)} (h : s.construct b s.builtFromRegs = r)
    (hp : t.params = s.params) (htc : t.txCap = s.txCap) (hrc : t.rxCap = s.rxCap) (h0 : t.cmd0 = s.cmd0)
    (h1 : t.cmd1 = s.cmd1) (hx : t.xbuf = s.xbuf) : t.construct b t.builtFromRegs = r := by
  rw [← h, builtFromRegs_congr hp h0 h1 hx]
  simp only [State.construct, hp, htc, hrc]

/-- The descriptor passes the construction check, and `TXBUF[0 .. r.tx_len)` is its wire string (R84, R246). -/
abbrev State.Carries (s : State) : Prop := s.construct true s.builtFromRegs = .ok (s.readBytes .tx 0 s.txLen.toNat)

theorem carries_congr (h : s.Carries) (hp : t.params = s.params) (htc : t.txCap = s.txCap) (hrc : t.rxCap = s.rxCap)
    (h0 : t.cmd0 = s.cmd0) (h1 : t.cmd1 = s.cmd1) (hx : t.xbuf = s.xbuf) (htb : t.txbuf = s.txbuf) (htl : t.txLen = s.txLen) :
    t.Carries := by
  unfold State.Carries
  rw [construct_congr h hp htc hrc h0 h1 hx, htl, readBytes_of_buffer (sp := .tx) htb]

/-! ## At rest: what a quiescent state keeps -/

/-- The clauses of the invariant that bind a quiescent state, whichever it is. -/
structure State.AtRest (s : State) : Prop where
  params   : s.params.Valid
  buffers  : s.BuffersWf
  reserved : s.ReservedClear
  noBreak  : s.breakO = false
  ascii    : s.framing = .ascii7E1
  payload  : s.payStart ≤ s.payEnd ∧ s.payEnd ≤ s.rxLen
  sizes    : s.SizeBounds
  last     : s.LastByAnswer

theorem State.Inv.atRest (h : s.Inv) (hb : s.busy = false) : s.AtRest where
  params := h.params
  buffers := h.buffers
  reserved := h.reserved
  noBreak := by
    by_contra hbr
    have hq : s.state = .breakSent := h.breakLine.1 (by simpa using hbr)
    simp [State.busy, hq, FsmState.busy] at hb
  ascii := by
    rw [h.framing, if_neg]
    intro hq
    simp [State.busy, hq, FsmState.busy] at hb
  payload := ⟨h.payload.1, h.payload.2.1⟩
  sizes := h.sizes
  last := h.last

/-- A quiescent state has the invariant as soon as its error, payload and `DONE` are those of the state it is in. -/
theorem State.AtRest.inv (h : s.AtRest) (hb : s.busy = false) (herr : s.ErrorByState)
    (hpay : s.state = .failed → s.payStart = 0 ∧ s.payEnd = 0 ∧ s.crcPresent = false)
    (hdone : s.state = .success ∨ s.state = .failed → s.done = true) : s.Inv := by
  have hne (q : FsmState) (hq : q.busy = true) : s.state ≠ q := fun heq => by simp [State.busy, heq, hq] at hb
  have hnot : s.busy ≠ true := by simp [hb]
  exact {
    params := h.params
    buffers := h.buffers
    reserved := h.reserved
    breakLine := by simp [State.BreakByState, h.noBreak, hne .breakSent rfl]
    framing := by rw [State.FramingByState, if_neg (hne .awaitingResponse rfl)]; exact h.ascii
    errors := herr
    command := fun hbusy => absurd hbusy hnot
    sending := fun hq => absurd hq (hne .commandSent rfl)
    receiving := fun hq => absurd hq (hne .awaitingResponse rfl)
    frame := fun hq => absurd hq (hne .validating rfl)
    payload := ⟨h.payload.1, h.payload.2, fun hq => hq.elim (fun hbusy => absurd hbusy hnot) hpay⟩
    sizes := h.sizes
    last := h.last
    doneFlag := ⟨hdone, fun hbusy => absurd hbusy hnot⟩ }

/-- In `Idle` nothing more is asked than that no sub-code stands. -/
theorem State.AtRest.inv_idle (h : s.AtRest) (hq : s.state = .idle) (hterr : s.terr = 0) : s.Inv :=
  h.inv (by simp [State.busy, hq, FsmState.busy]) (by simp [State.ErrorByState, hq, hterr, FsmState.attempting])
    (by simp [hq]) (by simp [hq])

/-! ## In a call: what every busy state keeps -/

/-- The clauses of the invariant that bind a busy state, whichever it is. -/
structure State.InCall (s : State) : Prop where
  params    : s.params.Valid
  buffers   : s.BuffersWf
  reserved  : s.ReservedClear
  carries   : s.Carries
  format    : s.fmt = respFmt s.descriptor
  retries   : s.retryCnt ≤ s.retryMax
  noPayload : s.payStart = 0 ∧ s.payEnd = 0 ∧ s.crcPresent = false
  last      : s.LastByAnswer
  notDone   : s.done = false

theorem State.Inv.inCall (h : s.Inv) (hb : s.busy = true) : s.InCall where
  params := h.params
  buffers := h.buffers
  reserved := h.reserved
  carries := (h.command hb).1
  format := (h.command hb).2.1
  retries := (h.command hb).2.2
  noPayload := h.payload.2.2 (.inl hb)
  last := h.last
  notDone := h.doneFlag.2 hb

/-- The bounds step 1 and step 8 of R175 give. -/
theorem State.InCall.capacities (h : s.InCall) :
    s.txLen.toNat ≤ s.params.txbufSize ∧ s.rxCap ≠ 0 ∧ s.rxCap.toNat ≤ s.params.rxbufSize := by
  obtain ⟨htx, hrx, -, hlen⟩ := construct_ok.1 h.carries
  rw [readBytes_length] at hlen
  exact ⟨hlen.trans htx, hrx rfl⟩

/-- A busy state has the invariant as soon as the clauses of its own state hold. -/
theorem State.InCall.inv (h : s.InCall) (hb : s.busy = true) (hbreak : s.BreakByState) (hframing : s.FramingByState)
    (herr : s.ErrorByState) (hrx : s.rxLen.toNat ≤ s.params.rxbufSize) (hsend : s.SendPointer) (hrecv : s.ReceivePointer)
    (hframe : s.FrameBounds) : s.Inv where
  params := h.params
  buffers := h.buffers
  reserved := h.reserved
  breakLine := hbreak
  framing := hframing
  errors := herr
  command := fun _ => ⟨h.carries, h.format, h.retries⟩
  sending := hsend
  receiving := hrecv
  frame := hframe
  payload := by
    obtain ⟨hstart, hend, hcrc⟩ := h.noPayload
    simp [State.PayloadBounds, hstart, hend, hcrc, BitVec.le_def]
  sizes := ⟨h.capacities.1, hrx⟩
  last := h.last
  doneFlag := ⟨fun hq => by rcases hq with hq | hq <;> simp [State.busy, hq, FsmState.busy] at hb, fun _ => h.notDone⟩

/-- The registers that drive an attempt, and what a step brings, are free in a call. -/
theorem State.InCall.update (h : s.InCall) (state : FsmState) (txPtr rxLen : BitVec 16) (rxNeed : BitVec 17)
    (t0 tDead tLast : Instant) (err : ErrKind) (terr : Byte) (framing : Framing) (breakO : Bool) (out : Output) :
    State.InCall { s with
      state := state, txPtr := txPtr, rxLen := rxLen, rxNeed := rxNeed, t0 := t0, tDead := tDead, tLast := tLast, err := err
      terr := terr, framing := framing, breakO := breakO, out := out } :=
  { h with carries := carries_congr h.carries rfl rfl rfl rfl rfl rfl rfl rfl }

/-! ## How a call goes on and ends -/

/-- `Retry` asks for an error, and a sub-code only beside `Transport`. -/
theorem State.InCall.inv_attemptFail (h : s.InCall) (hrx : s.rxLen.toNat ≤ s.params.rxbufSize) {e : ErrKind} {sub : Byte}
    (he : e ≠ .noError) (hsub : sub ≠ 0 → e = .transport) : (s.attemptFail e sub).Inv :=
  State.InCall.inv (h.update ..) rfl (by simp [State.BreakByState]) (by simp [State.FramingByState])
    (by simpa [State.ErrorByState, FsmState.attempting, he] using hsub) hrx (by simp [State.SendPointer])
    (by simp [State.ReceivePointer]) (by simp [State.FrameBounds])

/-- The entry to `Failed` drops the last address, and keeps the error that led there. -/
theorem State.InCall.inv_enterFailed (h : s.InCall) (hrx : s.rxLen.toNat ≤ s.params.rxbufSize) (hbreak : s.breakO = false)
    (hframing : s.framing = .ascii7E1) (he : s.err ≠ .noError) (hterr : s.terr ≠ 0 → s.err = .transport) :
    s.enterFailed.Inv := by
  obtain ⟨hstart, hend, hcrc⟩ := h.noPayload
  have hrest : s.enterFailed.AtRest :=
    { params := h.params
      buffers := h.buffers
      reserved := h.reserved
      noBreak := hbreak
      ascii := hframing
      payload := by simp [hstart, hend, BitVec.le_def]
      sizes := ⟨h.capacities.1, hrx⟩
      last := by simp [State.LastByAnswer] }
  exact hrest.inv rfl (by simpa [State.ErrorByState, FsmState.attempting, he] using hterr) (fun _ => ⟨hstart, hend, hcrc⟩)
    fun _ => rfl

theorem State.InCall.inv_failFinal (h : s.InCall) (hrx : s.rxLen.toNat ≤ s.params.rxbufSize) {e : ErrKind}
    (he : e ≠ .noError) : (s.failFinal e).Inv :=
  State.InCall.inv_enterFailed (h.update ..) hrx rfl rfl he fun hne => absurd rfl hne

/-- Both ways to start an attempt begin with nothing sent and nothing received. -/
theorem State.InCall.inv_startAttempt (h : s.InCall) (hbreak : s.breakO = false) (hframing : s.framing = .ascii7E1)
    (isRetry : Bool) : (s.startAttempt isRetry).Inv := by
  rw [startAttempt_eq]
  split
  all_goals
    refine State.InCall.inv (h.update ..) rfl ?_ ?_ ?_ (Nat.zero_le _) ?_ ?_ ?_
    · simp [State.BreakByState, hbreak]
    · simp [State.FramingByState, hframing]
    · simp [State.ErrorByState]
    · simp [State.SendPointer, BitVec.le_def]
    · simp [State.ReceivePointer]
    · simp [State.FrameBounds]

end Sys2Proof.Machine

/-! # The engine phase keeps the invariant (R242, R243, R248, R266 to R280, R306 to R311) -/

namespace Sys2Proof.Machine

variable {s u : State}

theorem state_busy {q : FsmState} (hq : s.state = q) (hb : q.busy = true) : s.busy = true := by rw [State.busy, hq, hb]

/-- In a state in which an attempt is in progress no error stands (R23). -/
theorem State.Inv.noError (h : s.Inv) (ha : s.state.attempting = true) : s.err = .noError ∧ s.terr = 0 := by
  obtain ⟨hnone, -, hsub⟩ := h.errors
  have he : s.err = .noError := hnone (.inl ha)
  refine ⟨he, ?_⟩
  by_contra hne
  exact absurd (he.symm.trans (hsub hne)) (by decide)

/-- Nothing but `BreakSent` holds the line in break. -/
theorem State.Inv.noBreak (h : s.Inv) (hq : s.state ≠ .breakSent) : s.breakO = false := by
  by_contra hbr
  exact hq (h.breakLine.1 (by simpa using hbr))

/-- Nothing but `AwaitingResponse` asks for another framing than ASCII. -/
theorem State.Inv.ascii (h : s.Inv) (hq : s.state ≠ .awaitingResponse) : s.framing = .ascii7E1 := by
  rw [h.framing, if_neg hq]

/-! ## The send side -/

/-- The two failures of a send-side handler keep the invariant, so its own work is left to show. -/
theorem sendGuard_keeps (h : s.Inv) (hb : s.busy = true) {k : StepOutcome} (hk : ∀ u, k = .next u → u.Inv)
    (hu : s.sendGuard k = .next u) : u.Inv := by
  have hcall := h.inCall hb
  rcases sendGuard_cases s k with ⟨-, g⟩ | ⟨e, -, -, g⟩ | ⟨-, -, g⟩ <;> rw [g] at hu
  · cases hu; exact hcall.inv_failFinal h.sizes.2 (by decide)
  · cases hu; exact hcall.inv_attemptFail h.sizes.2 (by decide) fun _ => rfl
  · exact hk u hu

theorem breakSentPhase_keeps (h : s.Inv) (hq : s.state = .breakSent) (hu : s.breakSentPhase = .next u) : u.Inv := by
  have hb := state_busy hq rfl
  have hne := h.noError (by rw [hq]; rfl)
  refine sendGuard_keeps h hb (fun u hu => ?_) hu
  split at hu <;> cases hu
  · refine State.InCall.inv ((h.inCall hb).update ..) rfl ?_ ?_ ?_ h.sizes.2 ?_ ?_ ?_
    · simp [State.BreakByState]
    · simpa [State.FramingByState] using h.ascii (by simp [hq])
    · simp [State.ErrorByState, hne]
    · simp [State.SendPointer]
    · simp [State.ReceivePointer]
    · simp [State.FrameBounds]
  · exact h

theorem markingWaitPhase_keeps (h : s.Inv) (hq : s.state = .markingWait) (hu : s.markingWaitPhase = .next u) : u.Inv := by
  have hb := state_busy hq rfl
  have hne := h.noError (by rw [hq]; rfl)
  refine sendGuard_keeps h hb (fun u hu => ?_) hu
  split at hu <;> cases hu
  · refine State.InCall.inv ((h.inCall hb).update ..) rfl ?_ ?_ ?_ h.sizes.2 ?_ ?_ ?_
    · simpa [State.BreakByState] using h.noBreak (by simp [hq])
    · simpa [State.FramingByState] using h.ascii (by simp [hq])
    · simp [State.ErrorByState, hne]
    · simp [State.SendPointer, BitVec.le_def]
    · simp [State.ReceivePointer]
    · simp [State.FrameBounds]
  · exact h

/-- Handing over a byte moves the pointer to at most the command's length. -/
theorem sendNext_keeps (h : s.Inv) (hq : s.state = .commandSent) (hptr : s.txPtr < s.txLen) : s.sendNext.Inv := by
  have hb := state_busy hq rfl
  refine State.InCall.inv ((h.inCall hb).update ..) hb ?_ ?_ ?_ h.sizes.2 ?_ ?_ ?_
  · exact h.breakLine
  · exact h.framing
  · exact h.errors
  · intro _; change s.txPtr + 1 ≤ s.txLen; bv_omega
  · simp [State.ReceivePointer, hq]
  · simp [State.FrameBounds, hq]

/-- Reception begins with room for at least one byte, and nothing received. -/
theorem enterAwaiting_keeps (h : s.Inv) (hq : s.state = .commandSent) : s.enterAwaiting.Inv := by
  have hb := state_busy hq rfl
  have hne := h.noError (by rw [hq]; rfl)
  have hroom : s.rxCap ≠ 0 := (h.inCall hb).capacities.2.1
  refine State.InCall.inv ((h.inCall hb).update ..) rfl ?_ ?_ ?_ (Nat.zero_le _) ?_ ?_ ?_
  · simpa [State.BreakByState] using h.noBreak (by simp [hq])
  · simp [State.FramingByState, State.descriptor]
  · simp [State.ErrorByState, hne]
  · simp [State.SendPointer]
  · refine fun _ => ⟨?_, by simp⟩
    change 0 < s.rxCap
    bv_omega
  · simp [State.FrameBounds]

theorem commandSentPhase_keeps (h : s.Inv) (hq : s.state = .commandSent) (hu : s.commandSentPhase = .next u) : u.Inv := by
  refine sendGuard_keeps h (state_busy hq rfl) (fun u hu => ?_) hu
  split at hu
  next hptr =>
    split at hu
    · split at hu <;> cases hu
      exact sendNext_keeps h hq hptr
    · cases hu; exact h
  next =>
    split at hu <;> cases hu
    · exact enterAwaiting_keeps h hq
    · exact h

/-! ## The receiver -/

/-- A received byte is stored inside `RXBUF`, whatever becomes of the frame. -/
theorem keepByte_inCall (h : s.InCall) (hroom : s.rxLen < s.rxCap) (c : Byte) : (s.keepByte c).InCall := by
  have hlt : s.rxLen.toNat < s.params.rxbufSize := by
    have hcap := h.capacities.2.2
    have := BitVec.lt_def.1 hroom
    omega
  obtain ⟨htx, ⟨hwf, hbelow⟩, hxb⟩ := h.buffers
  exact { h with
    buffers := ⟨htx, ⟨store_wf _ _ _ hwf, store_below _ _ _ _ hlt hbelow⟩, hxb⟩
    carries := carries_congr h.carries rfl rfl rfl rfl rfl rfl rfl rfl }

/-- What a state in `AwaitingResponse` leaves to show after a byte has been stored: its length and its frame size. -/
theorem awaiting_inv (h : s.Inv) (hq : s.state = .awaitingResponse) {r : State} (hr : r.InCall) (hsame : r.state = s.state ∧
    r.breakO = s.breakO ∧ r.framing = s.framing ∧ r.cmd0 = s.cmd0 ∧ r.cmd1 = s.cmd1 ∧ r.err = s.err ∧ r.terr = s.terr)
    (hrecv : r.ReceivePointer) : r.Inv := by
  obtain ⟨hstate, hbreak, hframing, h0, h1, herr, hterr⟩ := hsame
  have hrq : r.state = .awaitingResponse := hstate.trans hq
  refine hr.inv (state_busy hrq rfl) ?_ ?_ ?_ ?_ ?_ hrecv ?_
  · rw [State.BreakByState, hbreak, hstate]; exact h.breakLine
  · rw [State.FramingByState, hframing, hstate, State.descriptor, h0, h1]; exact h.framing
  · rw [State.ErrorByState, hstate, herr, hterr]; exact h.errors
  · have hcap := hr.capacities.2.2
    have := BitVec.lt_def.1 (hrecv hrq).1
    omega
  · simp [State.SendPointer, hrq]
  · simp [State.FrameBounds, hrq]

/-- The end of a reception that succeeded: the frame goes to the validator with the framing back at ASCII. -/
theorem validating_inv {r : State} (hr : r.InCall) (hstate : r.state = .validating) (hbreak : r.breakO = false)
    (hframing : r.framing = .ascii7E1) (herr : r.err = .noError ∧ r.terr = 0) (hone : 1 ≤ r.rxLen.toNat)
    (hfit : r.rxLen ≤ r.rxCap) (hbin : r.fmt = .binary8N1 → 6 ≤ r.rxLen.toNat) : r.Inv := by
  refine hr.inv (state_busy hstate rfl) ?_ ?_ ?_ ?_ ?_ ?_ ?_
  · simp [State.BreakByState, hstate, hbreak]
  · simp [State.FramingByState, hstate, hframing]
  · simp [State.ErrorByState, hstate, herr]
  · exact (BitVec.le_def.1 hfit).trans hr.capacities.2.2
  · simp [State.SendPointer, hstate]
  · simp [State.ReceivePointer, hstate]
  · exact fun _ => ⟨hone, hfit, hbin⟩

/-- The length after a byte is stored below a capacity. -/
theorem rxLen_succ (hroom : s.rxLen < s.rxCap) : (s.rxLen + 1).toNat = s.rxLen.toNat + 1 := by bv_omega

/-- In `AwaitingResponse` the framing is the response format. -/
theorem State.Inv.framing_eq_fmt (h : s.Inv) (hq : s.state = .awaitingResponse) : s.framing = s.fmt := by
  rw [h.framing, if_pos hq, (h.inCall (state_busy hq rfl)).format]

/-- R267 in a state with the invariant. -/
theorem endAscii_keeps (h : s.Inv) (hq : s.state = .awaitingResponse) (hf : s.framing = .ascii7E1) (c : Byte) :
    ((s.keepByte c).endAscii c).Inv := by
  obtain ⟨hroom, hneed⟩ := h.receiving hq
  rw [if_neg (by simp [hf])] at hneed
  have hcall := keepByte_inCall (h.inCall (state_busy hq rfl)) hroom c
  have hlen := rxLen_succ hroom
  have hfit : s.rxLen + 1 ≤ s.rxCap := by bv_omega
  have hne := h.noError (by rw [hq]; rfl)
  have hfmt : s.fmt = .ascii7E1 := (h.framing_eq_fmt hq).symm.trans hf
  unfold State.endAscii
  split
  next =>
    exact validating_inv (hcall.update ..) rfl (h.noBreak (by simp [hq])) hf hne (by rw [keepByte_eq]; simp only [hlen]; omega)
      hfit fun hbin => by rw [keepByte_eq] at hbin; simp [hfmt] at hbin
  next hmore =>
    refine awaiting_inv h hq hcall ⟨rfl, rfl, rfl, rfl, rfl, rfl, rfl⟩ fun _ => ⟨?_, ?_⟩
    · have hcap : s.rxLen + 1 ≠ s.rxCap := fun heq => hmore (.inr heq)
      change s.rxLen + 1 < s.rxCap
      bv_omega
    · rw [if_neg (by simp [keepByte_eq, hf])]; exact hneed

/-- The size field of a frame, once stored, is not touched by the bytes after it. -/
theorem packetSize_keepByte (h3 : 3 ≤ s.rxLen.toNat) (c : Byte) : (s.keepByte c).packetSize = s.packetSize := by
  have hread (i : Nat) (hi : i < 3) : (s.keepByte c).read .rx i = s.read .rx i :=
    (read_of_buffer (t := s.keepByte c) (s := s.write .rx s.rxLen.toNat c) (sp := .rx) rfl i).trans
      (read_write_other s c (.inr (by omega)))
  simp only [State.packetSize, hread 1 (by decide), hread 2 (by decide)]

/-- A binary frame holds its six fixed bytes besides what its size field counts (R116, R269). -/
theorem frameSize_toNat (p : BitVec 16) : (6 + p.setWidth 17 : BitVec 17).toNat = 6 + p.toNat := by bv_omega

/-- What `r.rx_need` is once a byte has been stored and noted: 0 below three bytes, then the frame's length. -/
theorem noteSize_rxNeed (h : s.Inv) (hq : s.state = .awaitingResponse) (hf : s.framing = .binary8N1) (c : Byte) :
    (s.keepByte c).noteSize.rxNeed =
      if 3 ≤ s.rxLen.toNat + 1 then 6 + (s.keepByte c).packetSize.setWidth 17 else 0 := by
  obtain ⟨hroom, hneed⟩ := h.receiving hq
  have hlen := rxLen_succ hroom
  have hthree : (s.keepByte c).rxLen = 3 ↔ s.rxLen.toNat + 1 = 3 := by
    rw [keepByte_eq, ← BitVec.toNat_inj]; simp only [hlen]; rfl
  rw [noteSize_eq]
  simp only [hthree]
  by_cases hnow : s.rxLen.toNat + 1 = 3
  · rw [if_pos hnow, if_pos (by omega)]
  rw [if_neg hnow]
  by_cases hpast : 3 ≤ s.rxLen.toNat
  · rw [if_pos ⟨hf, hpast⟩] at hneed
    rw [if_pos (by omega), packetSize_keepByte hpast]
    exact hneed.1
  · rw [if_neg fun hc => hpast hc.2] at hneed
    rw [if_neg (by omega)]
    exact hneed

/-- Storing and noting a byte leaves what does not belong to the reception. -/
theorem noteSize_keepByte_frame (s : State) (c : Byte) :
    (s.keepByte c).noteSize.state = s.state ∧ (s.keepByte c).noteSize.breakO = s.breakO ∧
    (s.keepByte c).noteSize.framing = s.framing ∧ (s.keepByte c).noteSize.cmd0 = s.cmd0 ∧
    (s.keepByte c).noteSize.cmd1 = s.cmd1 ∧ (s.keepByte c).noteSize.err = s.err ∧ (s.keepByte c).noteSize.terr = s.terr ∧
    (s.keepByte c).noteSize.rxCap = s.rxCap ∧ (s.keepByte c).noteSize.rxLen = s.rxLen + 1 ∧
    (s.keepByte c).noteSize.packetSize = (s.keepByte c).packetSize := by
  rw [noteSize_eq]
  and_intros <;> rfl

theorem noteSize_keepByte_inCall (h : s.InCall) (hroom : s.rxLen < s.rxCap) (c : Byte) : (s.keepByte c).noteSize.InCall := by
  rw [noteSize_eq]
  exact (keepByte_inCall h hroom c).update ..

/-- From the third byte on, a frame that is not refused fits, and is at most complete. -/
theorem noteSize_fits (h : s.Inv) (hq : s.state = .awaitingResponse) (hf : s.framing = .binary8N1) (c : Byte)
    (hthree : 3 ≤ s.rxLen.toNat + 1)
    (hover : ¬((s.keepByte c).noteSize.rxLen = 3 ∧ (s.keepByte c).noteSize.rxCap.toNat < (s.keepByte c).noteSize.rxNeed.toNat)) :
    (s.keepByte c).noteSize.rxNeed.toNat ≤ s.rxCap.toNat ∧ s.rxLen.toNat + 1 ≤ (s.keepByte c).noteSize.rxNeed.toNat := by
  obtain ⟨hroom, hrecv⟩ := h.receiving hq
  obtain ⟨-, -, -, -, -, -, -, hcap, hlen, -⟩ := noteSize_keepByte_frame s c
  have hsucc := rxLen_succ hroom
  have hneed := noteSize_rxNeed h hq hf c
  rw [if_pos hthree] at hneed
  by_cases hpast : 3 ≤ s.rxLen.toNat
  · rw [if_pos ⟨hf, hpast⟩, ← packetSize_keepByte hpast c, ← hneed] at hrecv
    obtain ⟨hsame, hfit, hpart⟩ := hrecv
    rw [hsame] at hfit hpart
    exact ⟨hfit, hpart⟩
  · have hnow : (s.keepByte c).noteSize.rxLen = 3 := by
      rw [hlen, ← BitVec.toNat_inj, hsucc]
      change _ = 3
      omega
    have hsix := frameSize_toNat (s.keepByte c).packetSize
    rw [← hneed] at hsix
    rw [hcap] at hover
    have hfit : ¬s.rxCap.toNat < (s.keepByte c).noteSize.rxNeed.toNat := fun hc => hover ⟨hnow, hc⟩
    omega

/-- A binary frame is complete at its length, which is at least six (R268). -/
theorem binaryComplete_inv (h : s.Inv) (hq : s.state = .awaitingResponse) (hf : s.framing = .binary8N1) (c : Byte)
    (hset : (s.keepByte c).noteSize.rxNeed ≠ 0)
    (hfull : (s.keepByte c).noteSize.rxLen.toNat = (s.keepByte c).noteSize.rxNeed.toNat) :
    State.Inv { (s.keepByte c).noteSize with framing := .ascii7E1, state := .validating } := by
  have hroom := (h.receiving hq).1
  have hne := h.noError (by rw [hq]; rfl)
  obtain ⟨-, hbreak, -, -, -, herr, hterr, hcap, hlen, -⟩ := noteSize_keepByte_frame s c
  have hcall := noteSize_keepByte_inCall (h.inCall (state_busy hq rfl)) hroom c
  have hneed := noteSize_rxNeed h hq hf c
  have hthree : 3 ≤ s.rxLen.toNat + 1 := by
    by_contra hc
    rw [if_neg hc] at hneed
    exact hset hneed
  have hsix : 6 ≤ (s.keepByte c).noteSize.rxLen.toNat := by
    rw [if_pos hthree] at hneed
    rw [hfull, hneed, frameSize_toNat]
    omega
  refine validating_inv (hcall.update ..) rfl ?_ rfl ⟨?_, ?_⟩ (show 1 ≤ (s.keepByte c).noteSize.rxLen.toNat by omega) ?_
    fun _ => hsix
  · exact hbreak.trans (h.noBreak (by simp [hq]))
  · exact herr.trans hne.1
  · exact hterr.trans hne.2
  · change (s.keepByte c).noteSize.rxLen ≤ (s.keepByte c).noteSize.rxCap
    rw [hlen, hcap]
    bv_omega

/-- A binary frame that is neither refused nor complete goes on (R268, R269). -/
theorem binaryPartial_inv (h : s.Inv) (hq : s.state = .awaitingResponse) (hf : s.framing = .binary8N1) (c : Byte)
    (hover : ¬((s.keepByte c).noteSize.rxLen = 3 ∧ (s.keepByte c).noteSize.rxCap.toNat < (s.keepByte c).noteSize.rxNeed.toNat))
    (hpart : ¬((s.keepByte c).noteSize.rxNeed ≠ 0 ∧
      (s.keepByte c).noteSize.rxLen.toNat = (s.keepByte c).noteSize.rxNeed.toNat))
    (hmore : (s.keepByte c).noteSize.rxLen ≠ (s.keepByte c).noteSize.rxCap) : (s.keepByte c).noteSize.Inv := by
  have hroom := (h.receiving hq).1
  have hsucc := rxLen_succ hroom
  obtain ⟨hstate, hbreak, hframing, h0, h1, herr, hterr, hcap, hlen, hsize⟩ := noteSize_keepByte_frame s c
  have hcall := noteSize_keepByte_inCall (h.inCall (state_busy hq rfl)) hroom c
  have hneed := noteSize_rxNeed h hq hf c
  refine awaiting_inv h hq hcall ⟨hstate, hbreak, hframing, h0, h1, herr, hterr⟩ fun _ => ⟨?_, ?_⟩
  · rw [hlen, hcap] at hmore ⊢
    bv_omega
  · rw [hframing, hcap, hlen, hsize, hsucc]
    rw [hlen, hsucc] at hpart
    by_cases hthree : 3 ≤ s.rxLen.toNat + 1
    · obtain ⟨hfit, hmost⟩ := noteSize_fits h hq hf c hthree hover
      rw [if_pos ⟨hf, hthree⟩]
      rw [if_pos hthree] at hneed
      have hset : (s.keepByte c).noteSize.rxNeed ≠ 0 := by
        rw [← BitVec.toNat_ne_iff_ne]
        change _ ≠ 0
        omega
      exact ⟨hneed, hfit, lt_of_le_of_ne hmost fun heq => hpart ⟨hset, heq⟩⟩
    · rw [if_neg fun hc => hthree hc.2]
      rw [if_neg hthree] at hneed
      exact hneed

/-- R268 in a state with the invariant. -/
theorem endBinary_keeps (h : s.Inv) (hq : s.state = .awaitingResponse) (hf : s.framing = .binary8N1) (c : Byte) :
    (s.keepByte c).endBinary.Inv := by
  have hroom := (h.receiving hq).1
  rcases endBinary_cases (s.keepByte c) with g | ⟨g, hset, hfull⟩ | ⟨g, hover, hpart, hmore⟩ <;> rw [g]
  · have hcall := noteSize_keepByte_inCall (h.inCall (state_busy hq rfl)) hroom c
    refine hcall.inv_attemptFail ?_ (by decide) fun hz => absurd rfl hz
    obtain ⟨-, -, -, -, -, -, -, hcap, hlen, -⟩ := noteSize_keepByte_frame s c
    refine le_trans ?_ hcall.capacities.2.2
    rw [hlen, hcap]
    bv_omega
  · exact binaryComplete_inv h hq hf c hset hfull
  · exact binaryPartial_inv h hq hf c hover hpart hmore

theorem storeByte_keeps (h : s.Inv) (hq : s.state = .awaitingResponse) (c : Byte) : (s.storeByte c).Inv := by
  unfold State.storeByte
  split
  next hf => exact endAscii_keeps h hq hf c
  next hf => exact endBinary_keeps h hq hf c

theorem receive_keeps (h : s.Inv) (hq : s.state = .awaitingResponse) (hu : s.receive = .next u) : u.Inv := by
  have hcall := h.inCall (state_busy hq rfl)
  unfold State.receive at hu
  split at hu
  next => cases hu; exact h
  next => cases hu; exact hcall.inv_attemptFail h.sizes.2 (by decide) fun _ => rfl
  next =>
    split at hu
    next => cases hu; exact hcall.inv_attemptFail h.sizes.2 (by decide) fun _ => rfl
    next c _ =>
      split at hu <;> cases hu
      exact storeByte_keeps h hq c

theorem awaitingPhase_keeps (h : s.Inv) (hq : s.state = .awaitingResponse) (hu : s.awaitingPhase = .next u) : u.Inv := by
  have hcall := h.inCall (state_busy hq rfl)
  have htimeout : (s.attemptFail .timeout 0).Inv := hcall.inv_attemptFail h.sizes.2 (by decide) fun hz => absurd rfl hz
  unfold State.awaitingPhase at hu
  split at hu
  · cases hu; exact hcall.inv_failFinal h.sizes.2 (by decide)
  split at hu
  · cases hu; exact htimeout
  split at hu
  · cases hu; exact htimeout
  · exact receive_keeps h hq hu

/-! ## The validator -/

/-- A descriptor that passes the construction check has a kind, an address, and fields that pass in their turn (R175). -/
theorem checkedWire_ok {n : Nat} {d : Descriptor} {body w : List Byte} (h : checkedWire n d body = .ok w) :
    ∃ k, Kind.ofCode d.kind = some k ∧ isAddr d.addr = true ∧ checkedFields n d k body = .ok w := by
  unfold checkedWire at h
  split at h
  · cases h
  next k hk =>
    iterate 3
      split at h
      · cases h
    split at h
    · cases h
    next haddr =>
      split at h
      · cases h
      · exact ⟨k, hk, by simpa using haddr, h⟩

/-- The addresses of a descriptor that passes the construction check (R106, R107, R175 steps 3 and 4). -/
theorem checkedWire_addresses {n : Nat} {d : Descriptor} {body w : List Byte} (h : checkedWire n d body = .ok w) :
    isAddr d.addr = true ∧ (d.kind = Kind.chaddr.code → isSensorAddr d.newAddr = true) := by
  obtain ⟨k, hk, haddr, hfields⟩ := checkedWire_ok h
  refine ⟨haddr, fun hc => ?_⟩
  rw [hc] at hk
  cases hk
  unfold checkedFields at hfields
  split at hfields
  · cases hfields
  next hnew => simpa using hnew

/-- The address a frame under validation must begin with is a sensor's (R113, R297). -/
theorem addrOk_sensor (h : s.InCall) {c : Byte} (hok : addrOk s.descriptor c = true) : isSensorAddr c = true := by
  obtain ⟨-, -, hbuilt, -⟩ := construct_ok.1 h.carries
  obtain ⟨haddr, hnew⟩ := checkedWire_addresses hbuilt
  unfold addrOk at hok
  split at hok
  next hk => rw [beq_iff_eq.1 hok]; exact hnew hk
  next =>
    split at hok
    next => exact hok
    next hq => rw [beq_iff_eq.1 hok]; exact isSensorAddr_iff.2 ⟨haddr, hq⟩

theorem checkAsciiCrc_cases (s : State) (n : Nat) :
    (∃ e, s.checkAsciiCrc n = some e ∧ e ≠ .noError) ∨ (s.checkAsciiCrc n = none ∧ 6 ≤ n) := by
  unfold State.checkAsciiCrc
  split
  next => exact .inl ⟨_, rfl, by decide⟩
  next hn =>
    split
    next => exact .inl ⟨_, rfl, by decide⟩
    next =>
      split
      next => exact .inr ⟨rfl, by omega⟩
      next => exact .inl ⟨_, rfl, by decide⟩

/-- The validator's verdict: an error, or a frame from the right address that is long enough for its format and its CRC. -/
theorem checkFrame_cases (s : State) (n : Nat) :
    (∃ e, s.checkFrame n = some e ∧ e ≠ .noError) ∨
      (s.checkFrame n = none ∧ addrOk s.descriptor (s.read .rx 0) = true ∧
        (s.fmt = .ascii7E1 → 3 ≤ n ∧ (crcMode s.descriptor = .ascii → 6 ≤ n))) := by
  unfold State.checkFrame
  split
  next => exact .inl ⟨_, rfl, by decide⟩
  next haddr =>
    have hok : addrOk s.descriptor (s.read .rx 0) = true := by simpa using haddr
    split
    next =>
      split
      next => exact .inl ⟨_, rfl, by decide⟩
      next hends =>
        have hthree : 3 ≤ n := by omega
        split
        next hmode =>
          rcases checkAsciiCrc_cases s n with hbad | ⟨hnone, hsix⟩
          · exact .inl hbad
          · exact .inr ⟨hnone, hok, fun _ => ⟨hthree, fun _ => hsix⟩⟩
        next hmode => exact .inr ⟨rfl, hok, fun _ => ⟨hthree, fun hm => absurd hm hmode⟩⟩
    next hf =>
      unfold State.checkBinaryCrc
      split
      next => exact .inr ⟨rfl, hok, fun hc => by simp [hf] at hc⟩
      next => exact .inl ⟨_, rfl, by decide⟩

theorem payloadEnd_le (m : CrcMode) (n : Nat) : payloadEnd m n ≤ n := by
  cases m <;> simp only [payloadEnd] <;> omega

/-- The payload of a frame that passed begins at 1 and ends no earlier (R280). -/
theorem one_le_payloadEnd {m : CrcMode} {n : Nat} (h3 : 3 ≤ n) (h6 : m = .ascii → 6 ≤ n) : 1 ≤ payloadEnd m n := by
  cases m
  case ascii => have := h6 rfl; simp only [payloadEnd]; omega
  all_goals simp only [payloadEnd]; omega

theorem enterSuccess_keeps (h : s.Inv) (hq : s.state = .validating) (haddr : addrOk s.descriptor (s.read .rx 0) = true)
    (hlong : 3 ≤ s.rxLen.toNat ∧ (crcMode s.descriptor = .ascii → 6 ≤ s.rxLen.toNat)) : s.enterSuccess.Inv := by
  have hcall := h.inCall (state_busy hq rfl)
  have hne := h.noError (by rw [hq]; rfl)
  have hend : s.enterSuccess.payEnd.toNat = payloadEnd (crcMode s.descriptor) s.rxLen.toNat := by
    have := payloadEnd_le (crcMode s.descriptor) s.rxLen.toNat
    rw [enterSuccess_payEnd, BitVec.toNat_ofNat, Nat.mod_eq_of_lt (by omega)]
  have hrest : s.enterSuccess.AtRest :=
    { params := h.params
      buffers := h.buffers
      reserved := h.reserved
      noBreak := h.noBreak (by simp [hq])
      ascii := h.ascii (by simp [hq])
      payload := by
        rw [BitVec.le_def, BitVec.le_def, hend]
        exact ⟨one_le_payloadEnd hlong.1 hlong.2, payloadEnd_le _ _⟩
      sizes := h.sizes
      last := fun _ => addrOk_sensor hcall haddr }
  exact hrest.inv rfl (by simp [State.ErrorByState, hne]) (by simp) fun _ => rfl

theorem validatingPhase_keeps (h : s.Inv) (hq : s.state = .validating) (hu : s.validatingPhase = .next u) : u.Inv := by
  have hcall := h.inCall (state_busy hq rfl)
  unfold State.validatingPhase at hu
  split at hu
  · cases hu
  rcases checkFrame_cases s s.rxLen.toNat with ⟨e, hcheck, he⟩ | ⟨hcheck, haddr, hascii⟩ <;> rw [hcheck] at hu <;> cases hu
  · exact hcall.inv_attemptFail h.sizes.2 he fun hz => absurd rfl hz
  · refine enterSuccess_keeps h hq haddr ?_
    cases hf : s.fmt
    case ascii7E1 => exact hascii hf
    case binary8N1 =>
      have hsix := (h.frame hq).2.2 hf
      exact ⟨by omega, fun _ => hsix⟩

/-! ## Retry, and the phase as a whole -/

theorem retryPhase_keeps (h : s.Inv) (hq : s.state = .retry) (hu : s.retryPhase = .next u) : u.Inv := by
  have hcall := h.inCall (state_busy hq rfl)
  have hbreak := h.noBreak (by simp [hq])
  have hascii := h.ascii (by simp [hq])
  unfold State.retryPhase at hu
  split at hu <;> cases hu
  next hagain =>
    have hcount : s.retryCnt + 1 ≤ s.retryMax := by
      have := hagain.2
      bv_omega
    have hnext : State.InCall { s with retryCnt := s.retryCnt + 1 } :=
      { hcall with
        carries := carries_congr hcall.carries rfl rfl rfl rfl rfl rfl rfl rfl
        retries := hcount }
    exact hnext.inv_startAttempt hbreak hascii true
  next => exact hcall.inv_enterFailed h.sizes.2 hbreak hascii (h.errors.2.1 (.inl hq)) h.errors.2.2

/-- The engine phase of the state a state with the invariant is in keeps the invariant. -/
theorem enginePhase_keeps (h : s.Inv) (hu : s.enginePhase s.state = .next u) : u.Inv := by
  cases hq : s.state <;> rw [hq] at hu
  case idle => cases hu; exact h
  case breakSent => exact breakSentPhase_keeps h hq hu
  case markingWait => exact markingWaitPhase_keeps h hq hu
  case commandSent => exact commandSentPhase_keeps h hq hu
  case awaitingResponse => exact awaitingPhase_keeps h hq hu
  case validating => exact validatingPhase_keeps h hq hu
  case success => cases hu; exact h
  case retry => exact retryPhase_keeps h hq hu
  case failed => cases hu; exact h

end Sys2Proof.Machine

/-! # The host phase and the reset keep the invariant (R61, R62, R292 to R295): O57, O58 -/

namespace Sys2Proof.Machine

variable {s t : State}

/-- What a step brings besides the phases, the overrun flag, the input and the outputs, is no matter of the invariant. -/
theorem State.Inv.besides (h : s.Inv) (ovr : Bool) (inputs : List Input) (envIdx : Nat) (cur : Input) (out : Output) :
    State.Inv { s with ovr := ovr, inputs := inputs, envIdx := envIdx, cur := cur, out := out } :=
  { h with
    command := fun hb =>
      have ⟨hcarries, hrest⟩ := h.command hb
      ⟨carries_congr hcarries rfl rfl rfl rfl rfl rfl rfl rfl, hrest⟩ }

/-! ## Operations in a quiescent state -/

theorem State.AtRest.accepted (h : s.AtRest) : s.accepted.AtRest := { h with }

/-- A synchronous operation that only writes CRC registers ends in `Idle` with the invariant. -/
theorem State.AtRest.inv_finish (h : s.AtRest) (crcVal : BitVec 16) (crcTxt : BitVec 24) (err : ErrKind) (done ovr : Bool) :
    State.Inv { s with
      crcVal := crcVal, crcTxt := crcTxt, err := err, terr := 0, done := done, ovr := ovr, state := .idle } :=
  State.AtRest.inv_idle { h with } rfl rfl

/-- Formatting a command that passed the construction check stays inside `TXBUF`. -/
theorem formatInto_buffers (h : s.BuffersWf) {w : List Byte} (hw : w.length ≤ s.params.txbufSize) :
    (s.formatInto w).BuffersWf := by
  obtain ⟨⟨hwf, hbelow⟩, hrx, hxb⟩ := h
  obtain ⟨hrxbuf, hxbuf⟩ := writeBytes_tx_others s 0 w
  have hparams : (s.formatInto w).params = s.params := (writeBytes_frame s .tx 0 w).1
  have htx : (s.formatInto w).txbuf.wf = true ∧ (s.formatInto w).txbuf.below s.params.txbufSize = true :=
    ⟨writeBytes_buffer_wf s .tx 0 w .tx hwf, writeBytes_buffer_below s .tx 0 _ w .tx (by omega) hbelow⟩
  rw [State.BuffersWf, hparams]
  refine ⟨htx, ?_, ?_⟩
  · change (s.writeBytes .tx 0 w).rxbuf.wf = true ∧ (s.writeBytes .tx 0 w).rxbuf.below _ = true
    rw [hrxbuf]; exact hrx
  · change (s.writeBytes .tx 0 w).xbuf.wf = true ∧ (s.writeBytes .tx 0 w).xbuf.below _ = true
    rw [hxbuf]; exact hxb

/-- The length of a command that passed the construction check, and what `r.tx_len` holds of it. -/
theorem construct_length (hp : s.params.Valid) {b : Bool} {built : Except ErrKind (List Byte)} {w : List Byte}
    (hw : s.construct b built = .ok w) : w.length ≤ s.params.txbufSize ∧ (BitVec.ofNat 16 w.length).toNat = w.length := by
  obtain ⟨hcap, -, -, hlen⟩ := construct_ok.1 hw
  have hsize : s.params.txbufSize ≤ 65535 := hp.1.2
  refine ⟨hlen.trans hcap, ?_⟩
  rw [BitVec.toNat_ofNat]
  exact Nat.mod_eq_of_lt (by omega)

theorem State.AtRest.formatInto (h : s.AtRest) {b : Bool} {built : Except ErrKind (List Byte)} {w : List Byte}
    (hw : s.construct b built = .ok w) : (s.formatInto w).AtRest := by
  obtain ⟨hlen, hval⟩ := construct_length h.params hw
  have hbuf := formatInto_buffers h.buffers hlen
  rw [formatInto_eq] at hbuf ⊢
  exact { h with
    buffers := hbuf
    sizes := ⟨by rw [hval]; exact hlen, h.sizes.2⟩ }

/-- A construction error ends the call in `Failed`, with that error and no result (R294). -/
theorem State.AtRest.inv_beginTransaction_error (h : s.AtRest) {fmt : Framing} {built : Except ErrKind (List Byte)}
    {e : ErrKind} (he : e ≠ .noError) (hc : s.construct true built = .error e) : (s.beginTransaction fmt built).Inv := by
  rw [beginTransaction_error hc]
  refine State.AtRest.inv { h with payload := ?_, sizes := ?_ } rfl ?_ (fun _ => ⟨rfl, rfl, rfl⟩) fun _ => rfl
  · exact ⟨BitVec.le_refl _, BitVec.le_refl _⟩
  · exact ⟨Nat.zero_le _, Nat.zero_le _⟩
  · simp [State.ErrorByState, he, FsmState.attempting]

/-- Formatting the descriptor's own command into a state at rest makes it a call (R84, R226). -/
theorem State.AtRest.formatInto_inCall (h : s.AtRest) (hdone : s.done = false) (hfmt : s.fmt = respFmt s.descriptor)
    (hretry : s.retryCnt = 0) (hpay : s.payStart = 0 ∧ s.payEnd = 0 ∧ s.crcPresent = false) {w : List Byte}
    (hc : s.construct true s.builtFromRegs = .ok w) : (s.formatInto w).InCall := by
  obtain ⟨hlen, hval⟩ := construct_length h.params hc
  have hbuf := formatInto_buffers h.buffers hlen
  have hsent := formatInto_readBytes s w
  rw [formatInto_eq] at hbuf hsent ⊢
  exact
    { params := h.params
      buffers := hbuf
      reserved := h.reserved
      carries := by
        unfold State.Carries
        simp only [hval]
        rw [hsent]
        exact construct_congr hc rfl rfl rfl rfl rfl rfl
      format := hfmt
      retries := by simp [hretry, BitVec.le_def]
      noPayload := hpay
      last := h.last
      notDone := hdone }

/-- The state a `TRANSACT` formats its command into: the result registers cleared (R294). -/
def State.cleared (s : State) : State :=
  { s with
    retryCnt := 0, rxLen := 0, rxNeed := 0, payStart := 0, payEnd := 0, crcPresent := false, fmt := respFmt s.descriptor }

theorem beginTransaction_cleared {built : Except ErrKind (List Byte)} {w : List Byte} (hc : s.construct true built = .ok w) :
    s.beginTransaction (respFmt s.descriptor) built = (s.cleared.formatInto w).startAttempt false := beginTransaction_ok hc

theorem State.AtRest.cleared (h : s.AtRest) : s.cleared.AtRest :=
  { h with
    payload := ⟨BitVec.le_refl _, BitVec.le_refl _⟩
    sizes := ⟨h.sizes.1, Nat.zero_le _⟩ }

/-- A descriptor that passes the construction check begins a call (R226, R294). -/
theorem State.AtRest.inv_beginTransaction_ok (h : s.AtRest) (hdone : s.done = false) {w : List Byte}
    (hc : s.construct true s.builtFromRegs = .ok w) :
    (s.beginTransaction (respFmt s.descriptor) s.builtFromRegs).Inv := by
  rw [beginTransaction_cleared hc]
  have hpass : s.cleared.construct true s.cleared.builtFromRegs = .ok w :=
    construct_congr hc rfl rfl rfl rfl rfl rfl
  have hcall : (s.cleared.formatInto w).InCall := h.cleared.formatInto_inCall hdone rfl rfl ⟨rfl, rfl, rfl⟩ hpass
  have hline := h.cleared.formatInto hpass
  exact hcall.inv_startAttempt hline.noBreak hline.ascii false

/-! ### No check gives the code of no error -/

theorem withIndex_ne_noError {α : Type} {n : Option α} {k : α → Except ErrKind (List Byte)} {e : ErrKind}
    (hk : ∀ a, k a = .error e → e ≠ .noError) (h : withIndex n k = .error e) : e ≠ .noError := by
  cases n with
  | none => cases h; decide
  | some a => exact hk a h

theorem checkedWire_ne_noError {n : Nat} {d : Descriptor} {body : List Byte} {e : ErrKind}
    (h : checkedWire n d body = .error e) : e ≠ .noError := by
  unfold checkedWire at h
  split at h
  · cases h; decide
  iterate 6
    split at h
    · cases h; decide
  refine withIndex_ne_noError (fun f hf => withIndex_ne_noError (fun form hform => ?_) hf) h
  iterate 2
    split at hform
    · cases hform; decide
  cases hform

theorem construct_ne_noError {b : Bool} {e : ErrKind} (h : s.construct b s.builtFromRegs = .error e) : e ≠ .noError := by
  unfold State.construct at h
  split at h
  · cases h; decide
  split at h
  · cases h; decide
  split at h
  next hb => cases h; exact checkedWire_ne_noError hb
  next =>
    split at h <;> cases h
    decide

/-- An operation that ends in the invariant from a state at rest keeps it from every state: while busy it is refused (R292). -/
theorem accept_keeps (h : s.Inv) {op : State → State} (ht : accept s op = .next t)
    (hop : s.accepted.AtRest → (op s.accepted).Inv) : t.Inv := by
  rcases accept_cases s op with ⟨-, g⟩ | ⟨hb, g⟩ <;> rw [g] at ht <;> cases ht
  · exact h.besides true s.inputs s.envIdx s.cur s.out
  · exact hop (h.atRest hb).accepted

theorem execTransact_keeps (h : s.Inv) (ht : execTransact s = .next t) : t.Inv := by
  refine accept_keeps h ht fun hr => ?_
  cases hc : s.accepted.construct true s.accepted.builtFromRegs with
  | error e => exact hr.inv_beginTransaction_error (construct_ne_noError hc) hc
  | ok w => exact hr.inv_beginTransaction_ok rfl hc

theorem execCmdFormat_keeps (h : s.Inv) (ht : execCmdFormat s = .next t) : t.Inv := by
  refine accept_keeps h ht fun hr => ?_
  split
  next => exact State.AtRest.inv_idle { hr with sizes := ⟨Nat.zero_le _, hr.sizes.2⟩ } rfl rfl
  next w hc =>
    have hf := hr.formatInto hc
    rw [formatInto_eq] at hf ⊢
    exact State.AtRest.inv_idle { hf with } rfl rfl

theorem execAddrCheck_keeps (h : s.Inv) (ht : execAddrCheck s = .next t) : t.Inv := by
  refine accept_keeps h ht fun hr => ?_
  split <;> exact hr.inv_finish ..

theorem execCrcCompute_keeps (h : s.Inv) (ht : execCrcCompute s = .next t) : t.Inv := by
  refine accept_keeps h ht fun hr => ?_
  split <;> exact hr.inv_finish ..

theorem execCrcDecAscii_keeps (h : s.Inv) (ht : execCrcDecAscii s = .next t) : t.Inv := by
  refine accept_keeps h ht fun hr => ?_
  split <;> exact hr.inv_finish ..

theorem execCrcVerify_keeps (h : s.Inv) (ht : execCrcVerify s = .next t) : t.Inv := by
  refine accept_keeps h ht fun hr => ?_
  split
  · exact hr.inv_finish ..
  split <;> exact hr.inv_finish ..

theorem execNop_keeps (h : s.Inv) (ht : execNop s = .next t) : t.Inv :=
  accept_keeps h ht fun hr => hr.inv_finish ..

theorem execCrcEncAscii_keeps (h : s.Inv) (ht : execCrcEncAscii s = .next t) : t.Inv :=
  accept_keeps h ht fun hr => hr.inv_finish ..

theorem execClear_keeps (h : s.Inv) (ht : execClear s = .next t) : t.Inv :=
  accept_keeps h ht fun hr => hr.inv_finish ..

theorem reservedOperation_keeps (h : s.Inv) (ht : reservedOperation s = .next t) : t.Inv :=
  accept_keeps h ht fun hr => hr.inv_finish ..

/-- Each of the sixteen operations of `CTRL.OP` keeps the invariant (R125, R293). -/
theorem exec_operation_keeps (h : s.Inv) {i : Instr} (hop : (opCode i).isSome = true) (ht : exec i s = .next t) : t.Inv := by
  cases i
  case nop => exact execNop_keeps h ht
  case transact => exact execTransact_keeps h ht
  case cmdFormat => exact execCmdFormat_keeps h ht
  case addrCheck => exact execAddrCheck_keeps h ht
  case crcCompute => exact execCrcCompute_keeps h ht
  case crcEncAscii => exact execCrcEncAscii_keeps h ht
  case crcDecAscii => exact execCrcDecAscii_keeps h ht
  case crcVerify => exact execCrcVerify_keeps h ht
  case clear => exact execClear_keeps h ht
  case reservedOp9 | reservedOpA | reservedOpB | reservedOpC | reservedOpD | reservedOpE | reservedOpF =>
    exact reservedOperation_keeps h ht
  all_goals cases hop

theorem decodeOp_isOperation (v : Word) : (opCode (decodeOp v)).isSome = true := by
  unfold decodeOp
  split <;> rfl

/-! ## Register and buffer writes in a quiescent state -/

/-- The registers that neither the configuration nor a CRC register nor a buffer byte is part of are as before. -/
structure State.SameControl (s t : State) : Prop where
  params     : t.params = s.params
  state      : t.state = s.state
  err        : t.err = s.err
  terr       : t.terr = s.terr
  breakO     : t.breakO = s.breakO
  framing    : t.framing = s.framing
  txLen      : t.txLen = s.txLen
  rxLen      : t.rxLen = s.rxLen
  payStart   : t.payStart = s.payStart
  payEnd     : t.payEnd = s.payEnd
  crcPresent : t.crcPresent = s.crcPresent
  lastValid  : t.lastValid = s.lastValid
  lastAddr   : t.lastAddr = s.lastAddr
  done       : t.done = s.done

/-- In a quiescent state a host write is free, as long as it keeps the buffers and the reserved bits. -/
theorem State.Inv.of_sameControl (h : s.Inv) (hb : s.busy = false) (hc : s.SameControl t) (hbuf : t.BuffersWf)
    (hres : t.ReservedClear) : t.Inv := by
  have hr := h.atRest hb
  have htr : t.AtRest :=
    { params := by rw [hc.params]; exact hr.params
      buffers := hbuf
      reserved := hres
      noBreak := hc.breakO.trans hr.noBreak
      ascii := hc.framing.trans hr.ascii
      payload := by rw [hc.payStart, hc.payEnd, hc.rxLen]; exact hr.payload
      sizes := by rw [State.SizeBounds, hc.txLen, hc.rxLen, hc.params]; exact hr.sizes
      last := by rw [State.LastByAnswer, hc.lastValid, hc.lastAddr]; exact hr.last }
  refine htr.inv ?_ ?_ ?_ ?_
  · rw [State.busy, hc.state]; exact hb
  · rw [State.ErrorByState, hc.state, hc.err, hc.terr]; exact h.errors
  · rw [hc.state, hc.payStart, hc.payEnd, hc.crcPresent]; exact fun hq => h.payload.2.2 (.inr hq)
  · rw [hc.state, hc.done]; exact h.doneFlag.1

theorem writeCsr_sameControl (s : State) (n : Nat) (v : Word) : s.SameControl (s.writeCsr n v) := by
  unfold State.writeCsr
  split <;> exact ⟨rfl, rfl, rfl, rfl, rfl, rfl, rfl, rfl, rfl, rfl, rfl, rfl, rfl, rfl⟩

theorem writeCsr_buffers (s : State) (n : Nat) (v : Word) :
    (s.writeCsr n v).txbuf = s.txbuf ∧ (s.writeCsr n v).rxbuf = s.rxbuf ∧ (s.writeCsr n v).xbuf = s.xbuf := by
  unfold State.writeCsr
  split <;> exact ⟨rfl, rfl, rfl⟩

/-- A register write stores the defined bits only (R40, R292). -/
theorem writeCsr_reserved (h : s.ReservedClear) (n : Nat) (v : Word) : (s.writeCsr n v).ReservedClear := by
  have hmask (m : Word) : (v &&& m) &&& m = v &&& m := by rw [BitVec.and_assoc, BitVec.and_self]
  obtain ⟨hcfg, h0, h1⟩ := h
  unfold State.writeCsr
  split
  case h_1 => exact ⟨hmask _, h0, h1⟩
  case h_2 => exact ⟨hcfg, hmask _, h1⟩
  case h_3 => exact ⟨hcfg, h0, hmask _⟩
  all_goals exact ⟨hcfg, h0, h1⟩

theorem hostWriteCsr_keeps (h : s.Inv) (n : Nat) (v : Word) : (s.hostWriteCsr n v).Inv := by
  unfold State.hostWriteCsr
  split
  · split
    · exact h.besides true s.inputs s.envIdx s.cur s.out
    next hb =>
      have hc := writeCsr_sameControl s n v
      obtain ⟨htx, hrx, hxb⟩ := writeCsr_buffers s n v
      refine h.of_sameControl (by simpa using hb) hc ?_ (writeCsr_reserved h.reserved n v)
      rw [State.BuffersWf, htx, hrx, hxb, hc.params]
      exact h.buffers
  · exact h

/-- A byte stored below the size of its buffer keeps the buffers. -/
theorem write_buffers (h : s.BuffersWf) {sp : Space} {i : Nat} (hi : i < s.size sp) (v : Byte) : (s.write sp i v).BuffersWf := by
  obtain ⟨⟨htx, htxb⟩, ⟨hrx, hrxb⟩, hxb, hxbb⟩ := h
  cases sp
  case tx => exact ⟨⟨store_wf _ _ _ htx, store_below _ _ _ _ hi htxb⟩, ⟨hrx, hrxb⟩, hxb, hxbb⟩
  case rx => exact ⟨⟨htx, htxb⟩, ⟨store_wf _ _ _ hrx, store_below _ _ _ _ hi hrxb⟩, hxb, hxbb⟩
  case xb => exact ⟨⟨htx, htxb⟩, ⟨hrx, hrxb⟩, store_wf _ _ _ hxb, store_below _ _ _ _ hi hxbb⟩

theorem write_sameControl (s : State) (sp : Space) (i : Nat) (v : Byte) : s.SameControl (s.write sp i v) := by
  cases sp <;> exact ⟨rfl, rfl, rfl, rfl, rfl, rfl, rfl, rfl, rfl, rfl, rfl, rfl, rfl, rfl⟩

theorem hostWriteBuf_keeps (h : s.Inv) (sp : Space) (i : Nat) (v : Byte) : (s.hostWriteBuf sp i v).Inv := by
  unfold State.hostWriteBuf
  split
  · exact h
  next hi =>
    split
    · exact h.besides true s.inputs s.envIdx s.cur s.out
    next hb =>
      refine h.of_sameControl (by simpa using hb) (write_sameControl s sp i v) (write_buffers h.buffers (by omega) v) ?_
      cases sp <;> exact h.reserved

theorem hostReadBuf_keeps (h : s.Inv) (sp : Space) (i : Nat) : (s.hostReadBuf sp i).Inv := by
  unfold State.hostReadBuf
  split
  · exact h.besides s.ovr ..
  split
  · exact h.besides true ..
  · exact h.besides s.ovr ..

/-! ## The host phase -/

theorem hostPhase_keeps (h : s.Inv) (ht : s.hostPhase = .next t) : t.Inv := by
  unfold State.hostPhase at ht
  split at ht
  next => cases ht; exact h
  next => cases ht; exact h.besides s.ovr ..
  next n v _ =>
    split at ht
    · rw [exec_fetch] at ht
      exact exec_operation_keeps h (decodeOp_isOperation v) ht
    · cases ht; exact hostWriteCsr_keeps h n v
  next sp i _ => cases ht; exact hostReadBuf_keeps h sp i.toNat
  next sp i v _ => cases ht; exact hostWriteBuf_keeps h sp i.toNat v

/-- While busy the host phase leaves the state where it is (R292). -/
theorem hostPhase_state_of_busy (hb : s.busy = true) (ht : s.hostPhase = .next t) : t.state = s.state := by
  unfold State.hostPhase at ht
  split at ht
  next => cases ht; rfl
  next => cases ht; rfl
  next n v _ =>
    split at ht
    · obtain ⟨op, hop⟩ := exec_eq_accept (s.fetch v) s
      rw [hop, accept_busy hb] at ht
      cases ht; rfl
    · cases ht
      unfold State.hostWriteCsr
      rw [if_pos hb]
      split <;> rfl
  next sp i _ =>
    cases ht
    unfold State.hostReadBuf
    rw [if_pos hb]
    split <;> rfl
  next sp i v _ =>
    cases ht
    unfold State.hostWriteBuf
    rw [if_pos hb]
    split <;> rfl

/-! ## Reset, and the step -/

/-- The registers of R61 over buffers that keep their form and size, whatever the input. -/
theorem resetWith_inv {p : Params} (hp : p.Valid) {tx rx xb : Memory} (htx : tx.wf = true ∧ tx.below p.txbufSize = true)
    (hrx : rx.wf = true ∧ rx.below p.rxbufSize = true) (hxb : xb.wf = true ∧ xb.below p.xbufSize = true)
    (inputs : List Input) (envIdx : Nat) (cur : Input) :
    State.Inv { State.resetWith p with
      txbuf := tx, rxbuf := rx, xbuf := xb, inputs := inputs, envIdx := envIdx, cur := cur } :=
  State.AtRest.inv_idle
    { params := hp
      buffers := ⟨htx, hrx, hxb⟩
      reserved := ⟨(by decide : cfgReset &&& cfgMask = cfgReset), BitVec.zero_and, BitVec.zero_and⟩
      noBreak := rfl
      ascii := rfl
      payload := ⟨BitVec.le_refl _, BitVec.le_refl _⟩
      sizes := ⟨Nat.zero_le _, Nat.zero_le _⟩
      last := by simp [State.LastByAnswer, State.resetWith] }
    rfl rfl

/-- Settles O57: at reset the buffers are empty and every register is as R61 says. -/
theorem invAtReset : Obligations.InvAtReset := by
  have hreset (p : Params) (hp : p.Valid) : (State.resetWith p).Inv :=
    resetWith_inv hp ⟨rfl, rfl⟩ ⟨rfl, rfl⟩ ⟨rfl, rfl⟩ [] 0 (Input.quiet 0)
  exact ⟨hreset Params.suggested (by decide), hreset⟩

theorem resetStep_keeps (h : s.Inv) : s.resetStep.Inv := by
  obtain ⟨htx, hrx, hxb⟩ := h.buffers
  exact resetWith_inv h.params htx hrx hxb s.inputs s.envIdx s.cur

theorem latch_keeps (h : s.Inv) : s.latch.Inv := by
  rw [latch_eq]
  exact h.besides s.ovr ..

theorem drive_keeps (h : s.Inv) : s.drive.Inv := h.besides s.ovr ..

/-- The engine phase of a step runs in the state the host phase left, or does nothing (R290). -/
theorem phases_keep {a u : State} (h : s.latch.Inv) (ha : s.latch.hostPhase = .next a)
    (hu : a.enginePhase s.state = .next u) : u.Inv := by
  have hinv := hostPhase_keeps h ha
  have hs : s.latch.state = s.state := by rw [latch_eq]
  cases hb : s.busy with
  | true =>
    have hstate := hostPhase_state_of_busy (by rw [State.busy, hs]; exact hb) ha
    rw [← hs, ← hstate] at hu
    exact enginePhase_keeps hinv hu
  | false =>
    rw [enginePhase_quiescent a hb] at hu
    cases hu
    exact hinv

/-- Settles O58, by the parts of a step: the input record, then the reset, or the host phase, the engine phase and the outputs. -/
theorem invKept : Obligations.InvKept := by
  intro s t h ht
  have hl := latch_keeps h
  rcases step_cases ht with ⟨-, rfl⟩ | ⟨-, a, u, ha, hu, rfl⟩
  · exact resetStep_keeps hl
  · exact drive_keeps (phases_keep hl ha hu)

end Sys2Proof.Machine

/-! # The descriptor registers of a command decode to it (R45, R46, R120 to R122, R126): O2 -/

namespace Sys2Proof

/-! ## The fields of a word put together from its fields -/

section
variable {v w : Nat}

theorem getLsbD_append_skip {hi : BitVec v} {lo : BitVec w} {k : Nat} (h : w ≤ k) :
    (hi ++ lo).getLsbD k = hi.getLsbD (k - w) := by
  rw [BitVec.getLsbD_append, if_neg (by omega)]

theorem getLsbD_append_ofBool (hi : BitVec v) (b : Bool) : (hi ++ BitVec.ofBool b).getLsbD 0 = b := by
  rw [BitVec.getLsbD_append, if_pos Nat.one_pos]; cases b <;> rfl

end

theorem Descriptor.cmd0_fields (d : Descriptor) :
    d.cmd0.extractLsb' 0 8 = d.addr ∧ d.cmd0.extractLsb' 8 8 = d.kind ∧ d.cmd0.extractLsb' 16 10 = d.idx ∧
    d.cmd0.extractLsb' 26 2 = d.metaForm ∧ d.cmd0.getLsbD 28 = d.crcExpect := by
  unfold Descriptor.cmd0
  refine ⟨?_, ?_, ?_, ?_, ?_⟩
  case refine_5 =>
    iterate 4 refine (getLsbD_append_skip (by decide)).trans ?_
    exact getLsbD_append_ofBool ..
  all_goals
    repeat refine (BitVec.extractLsb'_append_eq_of_le (by decide)).trans ?_
    exact BitVec.extractLsb'_append_eq_right

theorem Descriptor.cmd1_fields (d : Descriptor) :
    d.cmd1.extractLsb' 0 10 = d.param ∧ d.cmd1.extractLsb' 16 8 = d.newAddr ∧ d.cmd1.extractLsb' 24 8 = d.xlen := by
  unfold Descriptor.cmd1
  refine ⟨BitVec.extractLsb'_append_eq_right, ?_, ?_⟩
  all_goals iterate 2 refine (BitVec.extractLsb'_append_eq_of_le (by decide)).trans ?_
  · exact BitVec.extractLsb'_append_eq_right
  · exact BitVec.extractLsb'_append_eq_left

/-- Writing a descriptor's fields to `CMD0` and `CMD1` loses none of them. -/
theorem Descriptor.ofRegs_cmd0_cmd1 (d : Descriptor) : Descriptor.ofRegs d.cmd0 d.cmd1 = d := by
  obtain ⟨haddr, hkind, hidx, hmeta, hcrc⟩ := d.cmd0_fields
  obtain ⟨hparam, hnew, hxlen⟩ := d.cmd1_fields
  rw [Descriptor.ofRegs, haddr, hkind, hidx, hmeta, hcrc, hparam, hnew, hxlen]

/-! ## The command a descriptor spells -/

/-- A set digit `1 .. 9` is never the index 0, which stands for the form without it (R108). -/
theorem ne_zero_of_wfSet {n : BitVec 10} (h : wfSet n = true) : n ≠ 0 := by
  rintro rfl
  exact absurd h (by decide)

theorem ne_query_of_isSensorAddr {a : Byte} (h : Machine.isSensorAddr a = true) : a ≠ Ascii.query :=
  (Machine.isSensorAddr_iff.1 h).2

/-- The descriptor of a well-formed command spells it: the index says which of two forms it is, the address which of `ACK` and
`QUERY`, and the other commands are told apart by `KIND` and `META` alone. -/
theorem decodeCommand_encodeCommand {i : Instr} {d : Descriptor} (hw : i.WellFormed) (hd : encodeCommand i = some d) :
    decodeCommand d (extendedBody i) = .ok i := by
  have hset {n : BitVec 10} {b : Bool} (h : (b && wfSet n) = true) : n ≠ 0 := ne_zero_of_wfSet (Bool.and_eq_true_iff.1 h).2
  have hsetParam {n : BitVec 10} {b c : Bool} (h : (b && wfSet n && c) = true) : n ≠ 0 := hset (Bool.and_eq_true_iff.1 h).1
  cases i <;> cases hd
  case ack => exact congrArg Except.ok (if_neg (ne_query_of_isSensorAddr hw))
  case mn | mcn | cn | ccn => exact congrArg Except.ok (if_neg (hset hw))
  case imn | imcn | icn | iccn => exact if_neg (hset hw)
  case imnP | imcnP | icnP | iccnP => exact if_neg (hsetParam hw)
  all_goals rfl

/-- Settles O2: the registers give the descriptor back, and the descriptor spells the command. -/
theorem descriptorRoundTrip : Obligations.DescriptorRoundTrip := by
  intro i d hw hd
  rw [Descriptor.ofRegs_cmd0_cmd1]
  exact decodeCommand_encodeCommand hw hd

end Sys2Proof

/-! # The wire string of a command, and the `CTRL` word of an operation, decode to it (R105, R108, R125 to R127): O3 -/

namespace Sys2Proof

open Machine

/-! ## The digits of an operand -/

theorem ofNat_toNat_self {w : Nat} (n : BitVec w) : BitVec.ofNat w n.toNat = n := by
  rw [BitVec.ofNat_toNat, BitVec.setWidth_eq]

theorem digitVal_digit (k : Fin 10) : digitVal (digit k) = some k.val := by
  revert k; decide

theorem threeVal_digits (a b c : Fin 10) :
    threeVal (digit a) (digit b) (digit c) = some (100 * a.val + 10 * b.val + c.val) := by
  simp only [threeVal, digitVal_digit, Option.bind_some, Option.map_some]

theorem digit_eq_zero_iff (k : Fin 10) : digit k = Ascii.zero ↔ k = 0 := by
  revert k; decide

/-- A byte that is neither `!` nor a letter: what may follow the letters of a command that takes numbers. -/
def isNumeric (b : Byte) : Bool := decide (b ≠ Ascii.bang) && (decide (b < Ascii.A) || b == Ascii.underscore)

theorem isNumeric_digit (k : Fin 10) : isNumeric (digit k) = true := by
  revert k; decide

/-- A digit `1 .. 9` is spelled by one character, which reads back as it. -/
theorem setText_of_wf {n : BitVec 10} (h : wfSet n = true) :
    ∃ k, setText n = [digit k] ∧ setVal 1 (digit k) = some n := by
  simp only [wfSet, Bool.and_eq_true, decide_eq_true_eq] at h
  let k : Fin 10 := ⟨n.toNat, by omega⟩
  have hfield : SetIndex.ofField n = some ⟨k⟩ := setIndex_ofField.2 rfl
  have hk : k ≠ 0 := fun h0 => by have := congrArg Fin.val h0; simp only [k] at this; omega
  refine ⟨k, ?_, ?_⟩
  · rw [setText, hfield, spelled, SetIndex.text, if_neg hk]
  · rw [setVal, digitVal_digit, Option.bind_some, if_neg (by simp only [k]; omega)]
    exact congrArg some (ofNat_toNat_self n)

/-- So is a digit `0 .. 9`. -/
theorem contText_of_wf {n : BitVec 10} (h : wfCont n = true) :
    ∃ k, contText n = [digit k] ∧ contVal (digit k) = some n := by
  simp only [wfCont, decide_eq_true_eq] at h
  let k : Fin 10 := ⟨n.toNat, by omega⟩
  have hfield : ContIndex.ofField n = some ⟨k⟩ := contIndex_ofField.2 rfl
  refine ⟨k, ?_, ?_⟩
  · rw [contText, hfield, spelled, ContIndex.text]
  · rw [contVal, digitVal_digit]; exact congrArg some (ofNat_toNat_self n)

/-- The three digits of a number weigh as much as it. -/
theorem threeVal_digitAt (n : Fin 1000) :
    threeVal (digitAt n 2) (digitAt n 1) (digitAt n 0) = some n.val := by
  rw [digitAt, digitAt, digitAt, threeVal_digits]
  have := n.isLt
  simp only [Option.some.injEq]
  omega

theorem digitAt_eq_zero_iff (n : Fin 1000) (k : Nat) : digitAt n k = Ascii.zero ↔ n.val / 10 ^ k % 10 = 0 := by
  rw [digitAt, digit_eq_zero_iff, Fin.ext_iff]; rfl

/-- A number without leading zeros reads back as it. -/
theorem dataVal_dec (n : Fin 1000) : dataVal (dec n) = some (BitVec.ofNat 10 n.val) := by
  have hn := n.isLt
  have hval := threeVal_digitAt n
  unfold dec
  split
  next h1 =>
    rw [dataVal, contVal, digitAt, digitVal_digit]
    simp only [Option.map_some, Option.some.injEq]
    congr 1; omega
  split
  next h10 h100 =>
    have htens : digitAt n 1 ≠ Ascii.zero := by rw [ne_eq, digitAt_eq_zero_iff]; omega
    have hhundreds : digitAt n 2 = Ascii.zero := by rw [digitAt_eq_zero_iff]; omega
    rw [dataVal, if_neg htens, ← hhundreds, hval]; rfl
  next h10 h100 =>
    have hhundreds : digitAt n 2 ≠ Ascii.zero := by rw [ne_eq, digitAt_eq_zero_iff]; omega
    rw [dataVal, if_neg hhundreds, hval]; rfl

theorem isNumeric_dec (n : Fin 1000) : ∀ b ∈ dec n, isNumeric b = true := by
  unfold dec
  split
  · simp [digitAt, isNumeric_digit]
  split <;> simp [digitAt, isNumeric_digit]

theorem dataText_of_wf {n : BitVec 10} (h : wfData n = true) :
    dataVal (dataText n) = some n ∧ ∀ b ∈ dataText n, isNumeric b = true := by
  simp only [wfData, decide_eq_true_eq] at h
  let k : Fin 1000 := ⟨n.toNat, by omega⟩
  have hfield : DataIndex.ofField n = some ⟨k⟩ := dataIndex_ofField.2 rfl
  have htext : dataText n = dec k := by rw [dataText, hfield, spelled, DataIndex.text]
  rw [htext]
  exact ⟨(dataVal_dec k).trans (congrArg some (ofNat_toNat_self n)), isNumeric_dec k⟩

/-- A parameter number is spelled by three digits, which read back as it after the underscore. -/
theorem paramText_of_wf {p : BitVec 10} (h : wfParam p = true) :
    ∃ x y z, paramText p = [x, y, z] ∧ paramVal 1 Ascii.underscore x y z = some p ∧
      ∀ b ∈ [Ascii.underscore, x, y, z], isNumeric b = true := by
  simp only [wfParam, Bool.and_eq_true, decide_eq_true_eq] at h
  let k : Fin 1000 := ⟨p.toNat, by omega⟩
  have hk : k ≠ 0 := fun h0 => by have := congrArg Fin.val h0; simp only [k] at this; omega
  have hfield : ParamNumber.ofField p = some ⟨k, hk⟩ := paramNumber_ofField.2 rfl
  refine ⟨digitAt k 2, digitAt k 1, digitAt k 0, ?_, ?_, ?_⟩
  · rw [paramText, hfield, spelled, ParamNumber.text, ddd]
  · rw [paramVal, if_pos rfl, threeVal_digitAt, Option.bind_some, if_neg (by simp only [k]; omega)]
    exact congrArg some (ofNat_toNat_self p)
  · simp only [List.forall_mem_cons, digitAt, isNumeric_digit]
    exact ⟨by decide, trivial, trivial, trivial, by simp⟩

/-! ## Finding the row of a frame -/

theorem frameBody_append {body : List Byte} (h : Ascii.bang ∉ body) : frameBody (body ++ [Ascii.bang]) = some body := by
  induction body with
  | nil => rfl
  | cons b rest ih =>
    obtain ⟨hb, hrest⟩ := List.ne_and_not_mem_of_not_mem_cons h
    have hskip : frameBody (b :: (rest ++ [Ascii.bang])) = (frameBody (rest ++ [Ascii.bang])).map (b :: ·) :=
      if_neg hb.symm
    rw [List.cons_append, hskip, ih hrest]; rfl

/-- The first row that matches what stands between the address and the `!` is the command of a frame. -/
theorem decode_of_firstRow {a : Byte} {body : List Byte} {i : Instr} (ha : a ≠ Ascii.bang) (hbody : Ascii.bang ∉ body)
    (hi : firstRow (wireRows 1 a) body = some i) : decode (a :: (body ++ [Ascii.bang])) = .ok i := by
  have hparse : parseWire (a :: (body ++ [Ascii.bang])) = some i := by
    rw [parseWire, parseRows, if_neg ha, frameBody_append hbody, Option.bind_some, hi]
  unfold decode
  rw [hparse]

theorem firstRow_of_getElem? {rows : List (List Byte × (List Byte → Option Instr))} {body p : List Byte}
    {f : List Byte → Option Instr} {i : Instr} {k : Nat} (hrow : rows[k]? = some (p, f))
    (hskip : (rows.take k).all (fun r => (dropLiteral r.1 body).isNone) = true) (hhit : (dropLiteral p body).bind f = some i) :
    firstRow rows body = some i := by
  induction rows generalizing k with
  | nil => cases hrow
  | cons r rest ih =>
    obtain ⟨q, g⟩ := r
    cases k with
    | zero => cases hrow; rw [firstRow, hhit]
    | succ k =>
      rw [List.take_succ_cons, List.all_cons, Bool.and_eq_true, Option.isNone_iff_eq_none] at hskip
      rw [firstRow, hskip.1, Option.bind_none]
      exact ih hrow hskip.2

theorem dropLiteral_append (p t : List Byte) : dropLiteral p (p ++ t) = some t := by
  induction p with
  | nil => rfl
  | cons a p ih => rw [List.cons_append, dropLiteral, if_pos rfl, ih]

/-- Letters that do not begin the letters `p` do not match `p` with numbers behind it either. -/
theorem dropLiteral_eq_none {q p t : List Byte} (hq : ∀ c ∈ q, isNumeric c = false) (ht : ∀ b ∈ t, isNumeric b = true)
    (hpre : q.isPrefixOf p = false) : dropLiteral q (p ++ t) = none := by
  induction q generalizing p with
  | nil => simp at hpre
  | cons a q ih =>
    obtain ⟨ha, hq⟩ := List.forall_mem_cons.1 hq
    cases p with
    | nil =>
      cases t with
      | nil => rfl
      | cons b t =>
        have hb := (List.forall_mem_cons.1 ht).1
        rw [List.nil_append, dropLiteral, if_neg]
        rintro rfl
        rw [ha] at hb
        cases hb
    | cons b p =>
      rw [List.cons_append, dropLiteral]
      split
      next hab =>
        refine ih hq ?_
        rw [hab, List.isPrefixOf_cons_cons_self] at hpre
        exact hpre
      next => rfl

/-- The letters of a row are neither numbers nor `!`. -/
theorem wireRows_letters (a : Byte) :
    ((wireRows 1 a).all fun r => r.1.all fun c => !isNumeric c && decide (c ≠ Ascii.bang)) = true := rfl

/-- The row of the letters `p`, with no row before it whose letters begin `p`. -/
def IsRow (a : Byte) (p : List Byte) (f : List Byte → Option Instr) : Prop :=
  ∃ k, (wireRows 1 a)[k]? = some (p, f) ∧ ((wireRows 1 a).take k).all (fun r => !r.1.isPrefixOf p) = true

theorem IsRow.letters {a : Byte} {p : List Byte} {f : List Byte → Option Instr} (h : IsRow a p f) :
    ∀ c ∈ p, isNumeric c = false ∧ c ≠ Ascii.bang := by
  obtain ⟨k, hrow, -⟩ := h
  have hall := List.all_eq_true.1 (wireRows_letters a) _ (List.mem_of_getElem? hrow)
  simpa using hall

/-- The frame of a row of letters `p` with the numbers `t` behind them spells what the row makes of `t` (R105, R127). -/
theorem decode_row {a : Byte} {p t : List Byte} {f : List Byte → Option Instr} {i : Instr} (ha : a ≠ Ascii.bang)
    (hrow : IsRow a p f) (ht : ∀ b ∈ t, isNumeric b = true) (hf : f t = some i) :
    decode (a :: (p ++ t ++ [Ascii.bang])) = .ok i := by
  have hbang : Ascii.bang ∉ p ++ t := by
    rw [List.mem_append, not_or]
    exact ⟨fun hp => (hrow.letters _ hp).2 rfl, fun hbt => absurd (ht _ hbt) (by decide)⟩
  obtain ⟨k, hk, hfirst⟩ := hrow
  have hfound : firstRow (wireRows 1 a) (p ++ t) = some i := by
    refine firstRow_of_getElem? hk (List.all_eq_true.2 fun r hr => ?_) (by rw [dropLiteral_append]; exact hf)
    have hpre : r.1.isPrefixOf p = false := by simpa using List.all_eq_true.1 hfirst r hr
    have hletters := List.all_eq_true.1 (wireRows_letters a) r (List.mem_of_mem_take hr)
    rw [dropLiteral_eq_none (fun c hc => by simpa using (Bool.and_eq_true_iff.1 (List.all_eq_true.1 hletters c hc)).1) ht hpre]
    rfl
  exact decode_of_firstRow ha hbang hfound

/-! ## The rows by what stands behind their letters -/

section
variable {d x y z : Byte} {n q : BitVec 10} {i : Instr} {dv : Byte → Option (BitVec 10)} {g gp : BitVec 10 → Instr}
  {gnp : BitVec 10 → BitVec 10 → Instr}

theorem tailSet_digit (hd : setVal 1 d = some n) : tailSet 1 i g [d] = some (g n) := congrArg (Option.map g) hd

theorem tailCont_digit (hd : contVal d = some n) : tailCont g [d] = some (g n) := congrArg (Option.map g) hd

theorem tailParam_digits (hq : paramVal 1 Ascii.underscore x y z = some q) :
    tailParam 1 gp [Ascii.underscore, x, y, z] = some (gp q) := congrArg (Option.map gp) hq

theorem tailDigitParam_digits (hd : dv d = some n) (hq : paramVal 1 Ascii.underscore x y z = some q) :
    tailDigitParam 1 dv gnp [d, Ascii.underscore, x, y, z] = some (gnp n q) := by
  rw [tailDigitParam, hd, Option.bind_some, hq]; rfl

/-- What the rows of the identify forms of `M`, `MC`, `C` and `CC` read behind their letters (rows 20 to 39 of R126). -/
def identifyTail (i : Instr) (g gp : BitVec 10 → Instr) (gnp : BitVec 10 → BitVec 10 → Instr) (t : List Byte) :
    Option Instr :=
  tailSet 1 i g t <|> tailParam 1 gp t <|> tailDigitParam 1 (setVal 1) gnp t

theorem identifyTail_digit (hd : setVal 1 d = some n) : identifyTail i g gp gnp [d] = some (g n) := by
  rw [identifyTail, tailSet_digit hd]; rfl

theorem identifyTail_param (hq : paramVal 1 Ascii.underscore x y z = some q) :
    identifyTail i g gp gnp [Ascii.underscore, x, y, z] = some (gp q) := by
  rw [identifyTail, tailParam_digits hq]; rfl

theorem identifyTail_digitParam (hd : setVal 1 d = some n) (hq : paramVal 1 Ascii.underscore x y z = some q) :
    identifyTail i g gp gnp [d, Ascii.underscore, x, y, z] = some (gnp n q) := by
  rw [identifyTail, tailDigitParam_digits hd hq]; rfl

end

/-! ## The frames by what stands behind their letters -/

theorem ne_bang_of_isSensorAddr {a : Byte} (h : isSensorAddr a = true) : a ≠ Ascii.bang := by
  rintro rfl
  exact absurd h (by decide)

section
variable {a : Byte} {f : List Byte → Option Instr} {i : Instr} {n q : BitVec 10}

theorem decode_bare (ha : isSensorAddr a = true) (p : List Byte) (hrow : IsRow a p f) (hf : f [] = some i) :
    decode (a :: (p ++ [Ascii.bang])) = .ok i := by
  have h := decode_row (ne_bang_of_isSensorAddr ha) hrow (t := []) (by simp) hf
  rwa [List.append_nil] at h

theorem decode_set (hw : (isSensorAddr a && wfSet n) = true) (p : List Byte) (hrow : IsRow a p f)
    (hf : ∀ {d}, setVal 1 d = some n → f [d] = some i) : decode (a :: (p ++ setText n ++ [Ascii.bang])) = .ok i := by
  obtain ⟨ha, hn⟩ := Bool.and_eq_true_iff.1 hw
  obtain ⟨k, htext, hval⟩ := setText_of_wf hn
  rw [htext]
  exact decode_row (ne_bang_of_isSensorAddr ha) hrow (by simp [isNumeric_digit]) (hf hval)

theorem decode_cont (hw : (isSensorAddr a && wfCont n) = true) (p : List Byte) (hrow : IsRow a p f)
    (hf : ∀ {d}, contVal d = some n → f [d] = some i) : decode (a :: (p ++ contText n ++ [Ascii.bang])) = .ok i := by
  obtain ⟨ha, hn⟩ := Bool.and_eq_true_iff.1 hw
  obtain ⟨k, htext, hval⟩ := contText_of_wf hn
  rw [htext]
  exact decode_row (ne_bang_of_isSensorAddr ha) hrow (by simp [isNumeric_digit]) (hf hval)

theorem decode_data (hw : (isSensorAddr a && wfData n) = true) (p : List Byte) (hrow : IsRow a p f)
    (hf : ∀ {t}, dataVal t = some n → f t = some i) : decode (a :: (p ++ dataText n ++ [Ascii.bang])) = .ok i := by
  obtain ⟨ha, hn⟩ := Bool.and_eq_true_iff.1 hw
  obtain ⟨hval, hnum⟩ := dataText_of_wf hn
  exact decode_row (ne_bang_of_isSensorAddr ha) hrow hnum (hf hval)

theorem decode_param (hw : (isSensorAddr a && wfParam q) = true) (p : List Byte) (hrow : IsRow a p f)
    (hf : ∀ {x y z}, paramVal 1 Ascii.underscore x y z = some q → f [Ascii.underscore, x, y, z] = some i) :
    decode (a :: (p ++ (Ascii.underscore :: paramText q) ++ [Ascii.bang])) = .ok i := by
  obtain ⟨ha, hq⟩ := Bool.and_eq_true_iff.1 hw
  obtain ⟨x, y, z, htext, hval, hnum⟩ := paramText_of_wf hq
  rw [htext]
  exact decode_row (ne_bang_of_isSensorAddr ha) hrow hnum (hf hval)

theorem decode_setParam (hw : (isSensorAddr a && wfSet n && wfParam q) = true) (p : List Byte) (hrow : IsRow a p f)
    (hf : ∀ {d x y z}, setVal 1 d = some n → paramVal 1 Ascii.underscore x y z = some q →
      f [d, Ascii.underscore, x, y, z] = some i) :
    decode (a :: p ++ setText n ++ [Ascii.underscore] ++ paramText q ++ [Ascii.bang]) = .ok i := by
  obtain ⟨han, hq⟩ := Bool.and_eq_true_iff.1 hw
  obtain ⟨ha, hn⟩ := Bool.and_eq_true_iff.1 han
  obtain ⟨k, hdigit, hk⟩ := setText_of_wf hn
  obtain ⟨x, y, z, htext, hval, hnum⟩ := paramText_of_wf hq
  rw [htext, hdigit]
  simpa using decode_row (ne_bang_of_isSensorAddr ha) hrow (List.forall_mem_cons.2 ⟨isNumeric_digit k, hnum⟩) (hf hk hval)

theorem decode_contParam (hw : (isSensorAddr a && wfCont n && wfParam q) = true) (p : List Byte) (hrow : IsRow a p f)
    (hf : ∀ {d x y z}, contVal d = some n → paramVal 1 Ascii.underscore x y z = some q →
      f [d, Ascii.underscore, x, y, z] = some i) :
    decode (a :: p ++ contText n ++ [Ascii.underscore] ++ paramText q ++ [Ascii.bang]) = .ok i := by
  obtain ⟨han, hq⟩ := Bool.and_eq_true_iff.1 hw
  obtain ⟨ha, hn⟩ := Bool.and_eq_true_iff.1 han
  obtain ⟨k, hdigit, hk⟩ := contText_of_wf hn
  obtain ⟨x, y, z, htext, hval, hnum⟩ := paramText_of_wf hq
  rw [htext, hdigit]
  simpa using decode_row (ne_bang_of_isSensorAddr ha) hrow (List.forall_mem_cons.2 ⟨isNumeric_digit k, hnum⟩) (hf hk hval)

end

/-- The one row whose letters are followed by an address: no other row begins with its letter. -/
theorem decode_chaddr {a b : Byte} (ha : isSensorAddr a = true) (hb : isSensorAddr b = true) :
    decode [a, Ascii.A, b, Ascii.bang] = .ok (.chaddr a b) := by
  have hfound : firstRow (wireRows 1 a) [Ascii.A, b] = some (.chaddr a b) :=
    firstRow_of_getElem? (k := 16) rfl rfl rfl
  exact decode_of_firstRow (ne_bang_of_isSensorAddr ha) (by simpa using (ne_bang_of_isSensorAddr hb).symm) hfound

/-! ## `CRC_EXPECT` is not on the wire -/

/-- What a command is on the wire is the well-formed command of its descriptor without `CRC_EXPECT` (R127). -/
theorem onWire_eq {i j : Instr} {d : Descriptor} (hi : encodeCommand i = some d)
    (hj : encodeCommand j = some { d with crcExpect := false }) (hbody : extendedBody j = extendedBody i)
    (hw : j.WellFormed) : onWire i = j := by
  rw [onWire, hi]
  simp only [← hbody, decodeCommand_encodeCommand hw hj]

theorem decode_encode {i j : Instr} {d : Descriptor} (h : decode (encode i) = .ok j) (hi : encodeCommand i = some d)
    (hj : encodeCommand j = some { d with crcExpect := false }) (hbody : extendedBody j = extendedBody i) (hw : j.WellFormed) :
    decode (encode i) = .ok (onWire i) := by
  rw [h, onWire_eq hi hj hbody hw]

open Ascii in
/-- The frame of each command decodes by the row of its letters, `CRC_EXPECT` read as 0. -/
theorem decode_encode_command {i : Instr} {d : Descriptor} (hw : i.WellFormed) (hd : encodeCommand i = some d)
    (hx : ∀ a body crc, i ≠ .x a body crc) : decode (encode i) = .ok (onWire i) := by
  cases i <;> cases hd
  case ack a =>
    refine decode_encode (decode_bare hw [] ⟨22, rfl, rfl⟩ ?_) rfl rfl rfl hw
    rw [if_neg (ne_query_of_isSensorAddr hw)]; rfl
  case query => rfl
  case chaddr =>
    obtain ⟨ha, hb⟩ := Bool.and_eq_true_iff.1 hw
    exact decode_encode (decode_chaddr ha hb) rfl rfl rfl hw
  case ident => exact decode_encode (decode_bare hw [I] ⟨15, rfl, rfl⟩ rfl) rfl rfl rfl hw
  case m => exact decode_encode (decode_bare hw [M] ⟨17, rfl, rfl⟩ rfl) rfl rfl rfl hw
  case mc => exact decode_encode (decode_bare hw [M, C] ⟨9, rfl, rfl⟩ rfl) rfl rfl rfl hw
  case v => exact decode_encode (decode_bare hw [V] ⟨18, rfl, rfl⟩ rfl) rfl rfl rfl hw
  case c => exact decode_encode (decode_bare hw [C] ⟨19, rfl, rfl⟩ rfl) rfl rfl rfl hw
  case cc => exact decode_encode (decode_bare hw [C, C] ⟨10, rfl, rfl⟩ rfl) rfl rfl rfl hw
  case ha => exact decode_encode (decode_bare hw [H, A] ⟨12, rfl, rfl⟩ rfl) rfl rfl rfl hw
  case hb => exact decode_encode (decode_bare hw [H, B] ⟨13, rfl, rfl⟩ rfl) rfl rfl rfl hw
  case mn => exact decode_encode (decode_set hw [M] ⟨17, rfl, rfl⟩ tailSet_digit) rfl rfl rfl hw
  case mcn => exact decode_encode (decode_set hw [M, C] ⟨9, rfl, rfl⟩ tailSet_digit) rfl rfl rfl hw
  case cn => exact decode_encode (decode_set hw [C] ⟨19, rfl, rfl⟩ tailSet_digit) rfl rfl rfl hw
  case ccn => exact decode_encode (decode_set hw [C, C] ⟨10, rfl, rfl⟩ tailSet_digit) rfl rfl rfl hw
  case rn => exact decode_encode (decode_cont hw [R] ⟨20, rfl, rfl⟩ tailCont_digit) rfl rfl rfl hw
  case rcn => exact decode_encode (decode_cont hw [R, C] ⟨11, rfl, rfl⟩ tailCont_digit) rfl rfl rfl hw
  case dn => exact decode_encode (decode_data hw [D] ⟨21, rfl, rfl⟩ (congrArg (Option.map _))) rfl rfl rfl hw
  case dbn => exact decode_encode (decode_data hw [D, B] ⟨14, rfl, rfl⟩ (congrArg (Option.map _))) rfl rfl rfl hw
  case im => exact decode_encode (decode_bare hw [I, M] ⟨5, rfl, rfl⟩ rfl) rfl rfl rfl hw
  case imc => exact decode_encode (decode_bare hw [I, M, C] ⟨0, rfl, rfl⟩ rfl) rfl rfl rfl hw
  case iv => exact decode_encode (decode_bare hw [I, V] ⟨6, rfl, rfl⟩ rfl) rfl rfl rfl hw
  case ic => exact decode_encode (decode_bare hw [I, C] ⟨7, rfl, rfl⟩ rfl) rfl rfl rfl hw
  case icc => exact decode_encode (decode_bare hw [I, C, C] ⟨1, rfl, rfl⟩ rfl) rfl rfl rfl hw
  case iha => exact decode_encode (decode_bare hw [I, H, A] ⟨3, rfl, rfl⟩ rfl) rfl rfl rfl hw
  case ihb => exact decode_encode (decode_bare hw [I, H, B] ⟨4, rfl, rfl⟩ rfl) rfl rfl rfl hw
  case imn => exact decode_encode (decode_set hw [I, M] ⟨5, rfl, rfl⟩ identifyTail_digit) rfl rfl rfl hw
  case imcn => exact decode_encode (decode_set hw [I, M, C] ⟨0, rfl, rfl⟩ identifyTail_digit) rfl rfl rfl hw
  case icn => exact decode_encode (decode_set hw [I, C] ⟨7, rfl, rfl⟩ identifyTail_digit) rfl rfl rfl hw
  case iccn => exact decode_encode (decode_set hw [I, C, C] ⟨1, rfl, rfl⟩ identifyTail_digit) rfl rfl rfl hw
  case imP => exact decode_encode (decode_param hw [I, M] ⟨5, rfl, rfl⟩ identifyTail_param) rfl rfl rfl hw
  case imcP => exact decode_encode (decode_param hw [I, M, C] ⟨0, rfl, rfl⟩ identifyTail_param) rfl rfl rfl hw
  case icP => exact decode_encode (decode_param hw [I, C] ⟨7, rfl, rfl⟩ identifyTail_param) rfl rfl rfl hw
  case iccP => exact decode_encode (decode_param hw [I, C, C] ⟨1, rfl, rfl⟩ identifyTail_param) rfl rfl rfl hw
  case ivP => exact decode_encode (decode_param hw [I, V] ⟨6, rfl, rfl⟩ tailParam_digits) rfl rfl rfl hw
  case ihaP => exact decode_encode (decode_param hw [I, H, A] ⟨3, rfl, rfl⟩ tailParam_digits) rfl rfl rfl hw
  case ihbP => exact decode_encode (decode_param hw [I, H, B] ⟨4, rfl, rfl⟩ tailParam_digits) rfl rfl rfl hw
  case imnP => exact decode_encode (decode_setParam hw [I, M] ⟨5, rfl, rfl⟩ identifyTail_digitParam) rfl rfl rfl hw
  case imcnP => exact decode_encode (decode_setParam hw [I, M, C] ⟨0, rfl, rfl⟩ identifyTail_digitParam) rfl rfl rfl hw
  case icnP => exact decode_encode (decode_setParam hw [I, C] ⟨7, rfl, rfl⟩ identifyTail_digitParam) rfl rfl rfl hw
  case iccnP => exact decode_encode (decode_setParam hw [I, C, C] ⟨1, rfl, rfl⟩ identifyTail_digitParam) rfl rfl rfl hw
  case irnP => exact decode_encode (decode_contParam hw [I, R] ⟨8, rfl, rfl⟩ tailDigitParam_digits) rfl rfl rfl hw
  case ircnP => exact decode_encode (decode_contParam hw [I, R, C] ⟨2, rfl, rfl⟩ tailDigitParam_digits) rfl rfl rfl hw
  case x a body crc => exact absurd rfl (hx a body crc)

/-- A `CTRL` word begins with a byte below the address alphabet and has no `!`, so it is no frame (R105, R125). -/
theorem decode_encode_operation {i : Instr} (hop : encodeCommand i = none) : decode (encode i) = .ok (onWire i) := by
  cases i
  case nop | transact | cmdFormat | addrCheck | crcCompute | crcEncAscii | crcDecAscii | crcVerify | clear | reservedOp9 |
    reservedOpA | reservedOpB | reservedOpC | reservedOpD | reservedOpE | reservedOpF => rfl
  all_goals cases hop

/-- Settles O3: a command by the row of its letters, an operation by its four bytes. -/
theorem wireRoundTrip : Obligations.WireRoundTrip := by
  intro i hw hx
  cases hd : encodeCommand i with
  | none => exact decode_encode_operation hd
  | some d => exact decode_encode_command hw hd hx

end Sys2Proof

/-! # A well-formed command and its capacities, and the busy refusal (R41, R175, R292, R294): O22, O32 -/

namespace Sys2Proof.Machine

/-- Settles O32: every operation is an acceptance. -/
theorem everyOperationGoesOn : Obligations.EveryOperationGoesOn := by
  intro i s
  obtain ⟨op, hop⟩ := exec_eq_accept i s
  rw [hop]
  refine ⟨?_, fun hb => accept_busy hb op⟩
  rcases accept_cases s op with ⟨-, h⟩ | ⟨-, h⟩ <;> exact ⟨_, h⟩

/-! ## The checks a well-formed operand passes -/

theorem withAddr_of_sensor {a : Byte} (h : isSensorAddr a = true) (k : Except ErrKind (List Byte)) : withAddr a k = k := if_pos h

theorem withSetDigit_of_wf {n : BitVec 10} (h : wfSet n = true) :
    ∃ m, setText n = SetIndex.text m ∧ ∀ k, withSetDigit n k = k m := by
  have hne := ne_zero_of_wfSet h
  simp only [wfSet, Bool.and_eq_true, decide_eq_true_eq] at h
  have hfield : SetIndex.ofField n = some ⟨⟨n.toNat, by omega⟩⟩ := setIndex_ofField.2 rfl
  exact ⟨_, by rw [setText, hfield, spelled], fun k => by rw [withSetDigit, if_neg hne, hfield, withIndex]⟩

theorem withContDigit_of_wf {n : BitVec 10} (h : wfCont n = true) :
    ∃ m, contText n = ContIndex.text m ∧ ∀ k, withContDigit n k = k m := by
  simp only [wfCont, decide_eq_true_eq] at h
  have hfield : ContIndex.ofField n = some ⟨⟨n.toNat, by omega⟩⟩ := contIndex_ofField.2 rfl
  exact ⟨_, by rw [contText, hfield, spelled], fun k => by rw [withContDigit, hfield, withIndex]⟩

theorem withDataIndex_of_wf {n : BitVec 10} (h : wfData n = true) :
    ∃ m, dataText n = DataIndex.text m ∧ ∀ k, withDataIndex n k = k m := by
  simp only [wfData, decide_eq_true_eq] at h
  have hfield : DataIndex.ofField n = some ⟨⟨n.toNat, by omega⟩⟩ := dataIndex_ofField.2 rfl
  exact ⟨_, by rw [dataText, hfield, spelled], fun k => by rw [withDataIndex, hfield, withIndex]⟩

theorem withParam_of_wf {p : BitVec 10} (h : wfParam p = true) :
    ∃ m, paramText p = ParamNumber.text m ∧ ∀ k, withParam p k = k m := by
  simp only [wfParam, Bool.and_eq_true, decide_eq_true_eq] at h
  have hne : (⟨p.toNat, by omega⟩ : Fin 1000) ≠ 0 := by rw [ne_eq, Fin.ext_iff]; exact fun h0 => by simp at h0; omega
  have hfield : ParamNumber.ofField p = some ⟨_, hne⟩ := paramNumber_ofField.2 rfl
  exact ⟨_, by rw [paramText, hfield, spelled], fun k => by rw [withParam, hfield, withIndex]⟩

theorem withBody_of_wf {body : List Byte} (h : wfBody body = true) (n : Nat) (k : Except ErrKind (List Byte)) :
    withBody n body k = if body.length ≤ n then k else .error .illegalEncoding := by
  simp only [withBody, (Bool.and_eq_true_iff.1 h).2, and_true]

/-! ## What a well-formed command asks of the machine -/

/-- A well-formed command passes all its own checks but the size of `XBUF`, and its wire string is its encoding (R175, R224). -/
theorem exec_wellFormed {i : Instr} {d : Descriptor} (hd : encodeCommand i = some d) (hw : i.WellFormed) (s : State) :
    ∃ fmt, exec i s =
      issue s fmt (if (extendedBody i).length ≤ s.params.xbufSize then .ok (encode i) else .error .illegalEncoding) := by
  cases i
  case query => exact ⟨_, rfl⟩
  case chaddr a b =>
    obtain ⟨ha, hb⟩ := Bool.and_eq_true_iff.1 hw
    exact ⟨_, congrArg (issue s _) ((withAddr_of_sensor ha _).trans (withAddr_of_sensor hb _))⟩
  case x =>
    obtain ⟨ha, hbody⟩ := Bool.and_eq_true_iff.1 hw
    exact ⟨_, congrArg (issue s _) ((withAddr_of_sensor ha _).trans (withBody_of_wf hbody _ _))⟩
  case mn | mcn | cn | ccn | imn | imcn | icn | iccn =>
    obtain ⟨ha, hn⟩ := Bool.and_eq_true_iff.1 hw
    obtain ⟨m, htext, hcheck⟩ := withSetDigit_of_wf hn
    rw [encode, htext]
    exact ⟨_, congrArg (issue s _) ((withAddr_of_sensor ha _).trans (hcheck _))⟩
  case rn | rcn =>
    obtain ⟨ha, hn⟩ := Bool.and_eq_true_iff.1 hw
    obtain ⟨m, htext, hcheck⟩ := withContDigit_of_wf hn
    rw [encode, htext]
    exact ⟨_, congrArg (issue s _) ((withAddr_of_sensor ha _).trans (hcheck _))⟩
  case dn | dbn =>
    obtain ⟨ha, hn⟩ := Bool.and_eq_true_iff.1 hw
    obtain ⟨m, htext, hcheck⟩ := withDataIndex_of_wf hn
    rw [encode, htext]
    exact ⟨_, congrArg (issue s _) ((withAddr_of_sensor ha _).trans (hcheck _))⟩
  case imP | imcP | ivP | icP | iccP | ihaP | ihbP =>
    obtain ⟨ha, hp⟩ := Bool.and_eq_true_iff.1 hw
    obtain ⟨m, htext, hcheck⟩ := withParam_of_wf hp
    rw [encode, htext]
    exact ⟨_, congrArg (issue s _) ((withAddr_of_sensor ha _).trans (hcheck _))⟩
  case imnP | imcnP | icnP | iccnP =>
    obtain ⟨han, hp⟩ := Bool.and_eq_true_iff.1 hw
    obtain ⟨ha, hn⟩ := Bool.and_eq_true_iff.1 han
    obtain ⟨m, htext, hcheck⟩ := withSetDigit_of_wf hn
    obtain ⟨q, hptext, hpcheck⟩ := withParam_of_wf hp
    rw [encode, htext, hptext]
    exact ⟨_, congrArg (issue s _) ((withAddr_of_sensor ha _).trans ((hcheck _).trans (hpcheck _)))⟩
  case irnP | ircnP =>
    obtain ⟨han, hp⟩ := Bool.and_eq_true_iff.1 hw
    obtain ⟨ha, hn⟩ := Bool.and_eq_true_iff.1 han
    obtain ⟨m, htext, hcheck⟩ := withContDigit_of_wf hn
    obtain ⟨q, hptext, hpcheck⟩ := withParam_of_wf hp
    rw [encode, htext, hptext]
    exact ⟨_, congrArg (issue s _) ((withAddr_of_sensor ha _).trans ((hcheck _).trans (hpcheck _)))⟩
  case nop | transact | cmdFormat | addrCheck | crcCompute | crcEncAscii | crcDecAscii | crcVerify | clear | reservedOp9 |
    reservedOpA | reservedOpB | reservedOpC | reservedOpD | reservedOpE | reservedOpF => cases hd
  all_goals exact ⟨_, congrArg (issue s _) (withAddr_of_sensor hw _)⟩

/-! ## The capacities -/

/-- The capacities under which no command is sent (R175 step 1). -/
abbrev State.BadCapacity (s : State) : Prop :=
  s.params.txbufSize < s.txCap.toNat ∨ s.rxCap = 0 ∨ s.params.rxbufSize < s.rxCap.toNat

theorem construct_of_badCapacity {s : State} (h : s.BadCapacity) (built : Except ErrKind (List Byte)) :
    s.construct true built = .error .illegalEncoding := by
  unfold State.construct
  by_cases htx : s.params.txbufSize < s.txCap.toNat
  · rw [if_pos htx]
  · rw [if_neg htx, if_pos ⟨rfl, h.resolve_left htx⟩]

/-- With legal capacities the command's own checks decide. -/
theorem construct_error_of_checks {s : State} (h : ¬s.BadCapacity) (e : ErrKind) : s.construct true (.error e) = .error e := by
  obtain ⟨htx, hrx⟩ := not_or.1 h
  unfold State.construct
  rw [if_neg htx, if_neg fun hc => hrx hc.2]

/-- And then the length of its wire string (R175 step 8). -/
theorem construct_of_long {s : State} (h : ¬s.BadCapacity) {w : List Byte} (hlong : s.txCap.toNat < w.length) :
    s.construct true (.ok w) = .error .capacity := by
  obtain ⟨htx, hrx⟩ := not_or.1 h
  unfold State.construct
  rw [if_neg htx, if_neg fun hc => hrx hc.2]
  exact if_pos hlong

/-- A construction error ends the `TRANSACT` it belongs to in `Failed` (R294). -/
theorem issue_error {s : State} (hb : s.busy = false) {fmt : Framing} {built : Except ErrKind (List Byte)} {e : ErrKind}
    (h : s.construct true built = .error e) : issue s fmt built = .next (s.constructionFailed e) := by
  rw [issue, accept_quiescent hb, beginTransaction_error (s := s.accepted) h]
  rfl

/-- Settles O22: which check of the construction stops a well-formed command. -/
theorem capacityErrors : Obligations.CapacityErrors := by
  intro i d s hd hw hb badCapacity
  obtain ⟨fmt, hexec⟩ := exec_wellFormed hd hw s
  rw [hexec]
  refine ⟨fun h => issue_error hb ?_, fun hcap hbody hlong => issue_error hb ?_⟩
  · by_cases hcap : s.BadCapacity
    · exact construct_of_badCapacity hcap _
    · have hbody := h.resolve_left hcap
      rw [if_neg (by omega)]
      exact construct_error_of_checks hcap _
  · rw [if_pos hbody]
    exact construct_of_long hcap hlong

end Sys2Proof.Machine

/-! # Words and registers (R40 to R51, R120 to R127, R292): O1, O33, O35 -/

namespace Sys2Proof

/-- The operation of a word written to `CTRL` has the word's low four bits as its code, whatever the others are (R41). -/
theorem opCode_decodeOp (v : Word) : opCode (decodeOp v) = some (v.extractLsb' 0 4) := by
  have hlow : (v.extractLsb' 0 4).toNat = v.toNat % 16 := by rw [BitVec.extractLsb'_toNat]; rfl
  have hcode (k : BitVec 4) (hk : v.toNat % 16 = k.toNat) : some k = some (v.extractLsb' 0 4) :=
    congrArg some (BitVec.eq_of_toNat_eq (hk.symm.trans hlow.symm))
  have hlt : v.toNat % 16 < 16 := Nat.mod_lt _ (by decide)
  unfold decodeOp
  generalize v.toNat % 16 = r at hcode hlt
  interval_cases r
  all_goals exact hcode _ rfl

/-- Settles O1: the words, descriptors and strings by evaluation, the low bits by the code of the operation they select. -/
theorem decodesWrittenWords : Obligations.DecodesWrittenWords := by
  exact ⟨rfl, rfl, rfl, rfl, rfl, rfl, rfl, rfl, rfl, rfl, rfl, rfl, rfl, rfl, rfl, opCode_decodeOp⟩

end Sys2Proof

namespace Sys2Proof.Machine

variable {s : State}

/-! ## Reading a register -/

theorem framingBit_eq (f : Framing) : framingBit f = BitVec.ofBool (decide (f = .binary8N1)) := by
  cases f <;> rfl

theorem busy_iff : s.busy = true ↔ s.state ≠ .idle ∧ s.state ≠ .success ∧ s.state ≠ .failed := by
  rw [State.busy]
  cases s.state <;> decide

/-- The fields of `STATUS` (R42), from the lowest bit. -/
theorem statusWord_fields (s : State) :
    s.statusWord.extractLsb' 0 4 = s.state.code ∧ s.statusWord.getLsbD 4 = s.busy ∧ s.statusWord.getLsbD 5 = s.done ∧
    s.statusWord.getLsbD 6 = decide (s.framing = .binary8N1) ∧ s.statusWord.getLsbD 7 = s.ovr ∧
    s.statusWord.getLsbD 8 = s.breakO ∧ s.statusWord.getLsbD 9 = s.lastValid ∧ s.statusWord.getLsbD 10 = s.irq ∧
    s.statusWord.extractLsb' 11 21 = 0 := by
  unfold State.statusWord
  rw [framingBit_eq]
  refine ⟨BitVec.extractLsb'_append_eq_right, ?_, ?_, ?_, ?_, ?_, ?_, ?_, ?_⟩
  case refine_8 =>
    iterate 7 refine (BitVec.extractLsb'_append_eq_of_le (by decide)).trans ?_
    exact BitVec.extractLsb'_append_eq_left
  all_goals
    repeat refine (getLsbD_append_skip (by decide)).trans ?_
    exact getLsbD_append_ofBool ..

/-- The fields of `RESULT` (R43), from the lowest bit. -/
theorem resultWord_fields (s : State) :
    s.resultWord.extractLsb' 0 4 = s.err.code ∧ s.resultWord.extractLsb' 4 4 = 0 ∧ s.resultWord.extractLsb' 8 8 = s.terr ∧
    s.resultWord.getLsbD 16 = decide (s.fmt = .binary8N1) ∧ s.resultWord.getLsbD 17 = s.crcPresent ∧
    s.resultWord.extractLsb' 18 14 = 0 := by
  unfold State.resultWord
  rw [framingBit_eq]
  refine ⟨BitVec.extractLsb'_append_eq_right, ?_, ?_, ?_, ?_, ?_⟩
  case refine_5 =>
    iterate 4 refine (BitVec.extractLsb'_append_eq_of_le (by decide)).trans ?_
    exact BitVec.extractLsb'_append_eq_left
  case refine_3 | refine_4 =>
    repeat refine (getLsbD_append_skip (by decide)).trans ?_
    exact getLsbD_append_ofBool ..
  all_goals
    repeat refine (BitVec.extractLsb'_append_eq_of_le (by decide)).trans ?_
    exact BitVec.extractLsb'_append_eq_right

/-- The fields of `LAST` (R51), from the lowest bit. -/
theorem lastWord_fields (s : State) :
    s.lastWord.extractLsb' 0 8 = s.lastAddr ∧ s.lastWord.getLsbD 8 = s.lastValid ∧ s.lastWord.extractLsb' 9 23 = 0 := by
  unfold State.lastWord
  refine ⟨BitVec.extractLsb'_append_eq_right, ?_, ?_⟩
  · exact (getLsbD_append_skip (by decide)).trans (getLsbD_append_ofBool ..)
  · iterate 1 refine (BitVec.extractLsb'_append_eq_of_le (by decide)).trans ?_
    exact BitVec.extractLsb'_append_eq_left

/-- The two halves of an instant make it up. -/
theorem halves_append (t : Instant) : t.extractLsb' 32 32 ++ t.extractLsb' 0 32 = t :=
  BitVec.extractLsb'_append_extractLsb'_eq_extractLsb' (w := 64) rfl |>.trans BitVec.extractLsb'_eq_self

theorem readCsr_of_reserved {n : Nat} (h : 28 ≤ n ∨ n = 0) : s.readCsr n = 0 := by
  unfold State.readCsr
  split
  case h_28 => rfl
  all_goals omega

/-- A register read changes the read data and nothing else (R78). -/
theorem hostPhase_rdCsr {n : Nat} (h : s.cur.host = .rdCsr n) : s.hostPhase = .next (s.answer (s.readCsr n)) := by
  rw [State.hostPhase, h]

/-- Settles O35: the words made of fields, the registers that are one field, and the effect of a read. -/
theorem registerReads : Obligations.RegisterReads := by
  intro s
  obtain ⟨hstate, hbusy, hdone, hframing, hovr, hbreak, hvalid, hirq, hhigh⟩ := statusWord_fields s
  obtain ⟨herr, hgap, hterr, hfmt, hcrc, htop⟩ := resultWord_fields s
  have hstatus : s.readCsr 1 = s.statusWord := rfl
  have hresult : s.readCsr 2 = s.resultWord := rfl
  rw [hstatus, hresult]
  refine ⟨⟨hstate.trans ?_, ?_, hdone, ?_, hovr, hbreak, hvalid, hirq, hhigh⟩,
    ⟨herr.trans ?_, hgap, hterr, ?_, hcrc, htop⟩, lastWord_fields s, ⟨rfl, rfl, rfl, rfl, rfl⟩,
    ⟨rfl, rfl, rfl, rfl, rfl, rfl, rfl, rfl, rfl, rfl, rfl, rfl, rfl⟩,
    halves_append s.lastT, halves_append s.cur.now, halves_append s.tDead, fun n => ⟨readCsr_of_reserved, hostPhase_rdCsr⟩⟩
  · cases s.state <;> rfl
  · rw [hbusy, busy_iff]
  · rw [hframing, decide_eq_true_iff]
  · cases s.err <;> rfl
  · rw [hfmt, decide_eq_true_iff]

/-! ## Writing a register -/

theorem isWritableCsr_iff {n : Nat} :
    isWritableCsr n = true ↔ n ∈ [3, 4, 5, 6, 7, 8, 9, 10, 16, 17, 18, 19, 20] := by
  simp only [isWritableCsr, Bool.or_eq_true, Bool.and_eq_true, decide_eq_true_eq, List.mem_cons, List.not_mem_nil, or_false]
  omega

/-- The registers of class `RW`, one by one (R40). -/
theorem isWritableCsr_cases {n : Nat} (h : isWritableCsr n = true) :
    n = 3 ∨ n = 4 ∨ n = 5 ∨ n = 6 ∨ n = 7 ∨ n = 8 ∨ n = 9 ∨ n = 10 ∨ n = 16 ∨ n = 17 ∨ n = 18 ∨ n = 19 ∨ n = 20 := by
  simpa using isWritableCsr_iff.1 h

/-- The registers with defined bits are the ones of class `RW`. -/
theorem csrMask_ne_zero_iff {n : Nat} : csrMask n ≠ 0 ↔ isWritableCsr n = true := by
  constructor
  · intro h
    unfold csrMask at h
    split at h
    case h_14 => exact absurd rfl h
    all_goals rfl
  · intro h
    rcases isWritableCsr_cases h with rfl | rfl | rfl | rfl | rfl | rfl | rfl | rfl | rfl | rfl | rfl | rfl | rfl
    all_goals decide

/-- Keeping the low bits of a word is masking it with as many ones. -/
theorem setWidth_setWidth_eq_and (v : Word) (k : Nat) :
    (v.setWidth k).setWidth 32 = v &&& (BitVec.allOnes k).setWidth 32 := by
  ext i hi
  simp [Bool.and_comm, BitVec.getLsbD_eq_getElem hi]

/-- A written register reads back the defined bits of the value (R40, R292). -/
theorem readCsr_writeCsr_same {n : Nat} (h : isWritableCsr n = true) (v : Word) :
    (s.writeCsr n v).readCsr n = v &&& csrMask n := by
  have hall : v = v &&& 0xFFFFFFFF := BitVec.and_allOnes.symm
  rcases isWritableCsr_cases h with rfl | rfl | rfl | rfl | rfl | rfl | rfl | rfl | rfl | rfl | rfl | rfl | rfl
  · rfl
  · rfl
  · rfl
  · exact hall
  · exact setWidth_setWidth_eq_and v 16
  · exact setWidth_setWidth_eq_and v 16
  · exact hall
  · exact hall
  · exact setWidth_setWidth_eq_and v 16
  · exact setWidth_setWidth_eq_and v 24
  · exact setWidth_setWidth_eq_and v 16
  · exact setWidth_setWidth_eq_and v 16
  · exact setWidth_setWidth_eq_and v 3

/-- Every other register reads as before, but `STATUS`, whose `IRQ` bit `CFG` gates (R42, R340). -/
theorem readCsr_writeCsr_other {n m : Nat} (v : Word) (hm : m ≠ n) (hirq : m = 1 → n ≠ 3) :
    (s.writeCsr n v).readCsr m = s.readCsr m := by
  unfold State.writeCsr
  split
  case h_1 =>
    have hstatus : m ≠ 1 := fun h => hirq h rfl
    unfold State.readCsr
    split <;> first | rfl | contradiction
  case h_14 => rfl
  all_goals
    unfold State.readCsr
    split <;> first | rfl | contradiction

/-- A register write changes the field of its register and nothing else (R292). -/
theorem writeCsr_eq (s : State) (n : Nat) (v : Word) :
    let t := s.writeCsr n v
    (n = 3 → t = { s with cfg := t.cfg }) ∧ (n = 4 → t = { s with cmd0 := t.cmd0 }) ∧ (n = 5 → t = { s with cmd1 := t.cmd1 }) ∧
    (n = 6 → t = { s with tOvr := t.tOvr }) ∧ (n = 7 → t = { s with txCap := t.txCap }) ∧
    (n = 8 → t = { s with rxCap := t.rxCap }) ∧ (n = 9 → t = { s with abortLo := t.abortLo }) ∧
    (n = 10 → t = { s with abortHi := t.abortHi }) ∧ (n = 16 → t = { s with crcVal := t.crcVal }) ∧
    (n = 17 → t = { s with crcTxt := t.crcTxt }) ∧ (n = 18 → t = { s with crcStart := t.crcStart }) ∧
    (n = 19 → t = { s with crcEnd := t.crcEnd }) ∧ (n = 20 → t = { s with crcCtl := t.crcCtl }) := by
  and_intros
  all_goals rintro rfl; rfl

/-! ## A register write as a host access -/

/-- Settles O33: the write taken, refused or ignored, as the class of the register and the state say. -/
theorem registerWrites : Obligations.RegisterWrites := by
  intro s n v hhost hn
  have hphase : s.hostPhase = .next (s.hostWriteCsr n v) := by
    rw [State.hostPhase, hhost]
    exact if_neg hn
  rw [hphase, csrMask_ne_zero_iff]
  refine ⟨fun hw hb => ⟨s.writeCsr n v, ?_, readCsr_writeCsr_same hw v, fun m => readCsr_writeCsr_other v, ?_⟩, fun hw hb => ?_,
    fun h0 => ?_⟩
  · rw [State.hostWriteCsr, if_pos hw, hb]; rfl
  · obtain ⟨h3, h4, h5, h6, h7, h8, h9, h10, h16, h17, h18, h19, h20⟩ := writeCsr_eq s n v
    exact ⟨h3, h4, h5, h6, h7, h8, h9, h10, h16, h17, h18, h19, h20, isWritableCsr_iff.1 hw, read_congr (writeCsr_buffers s n v)⟩
  · rw [State.hostWriteCsr, if_pos hw, if_pos hb]; rfl
  · have hw : ¬isWritableCsr n = true := fun h => csrMask_ne_zero_iff.2 h h0
    rw [State.hostWriteCsr, if_neg hw]

end Sys2Proof.Machine

/-! # The reset, and the instruction a step runs (R41, R61, R62, R290 to R293, R370): O37, O39, O40 -/

namespace Sys2Proof.Machine

/-- Settles O39: the record taken says reset, and the reset keeps the buffers and what is no register. -/
theorem resetStep : Obligations.ResetStep := by
  intro s c rest hin hrst
  have hlatch := latch_cons s c rest hin
  have hreset : s.latch.cur.rst = true := by rw [hlatch]; exact hrst
  rw [step_reset hreset, hlatch]
  rfl

/-- After reset nothing has answered yet, so the first transaction begins with a break (R297). -/
theorem needBreak_of_not_lastValid {s : State} (h : s.lastValid = false) (isRetry : Bool) : s.needBreak isRetry = true :=
  (needBreak_iff s isRetry).2 (.inr (.inr (.inl h)))

theorem readCsr_resetWith_eq_zero (p : Params) {n : Nat} (h3 : n ≠ 3) (h7 : n ≠ 7) (h8 : n ≠ 8) :
    (State.resetWith p).readCsr n = 0 := by
  unfold State.readCsr
  split
  case h_3 => exact absurd rfl h3
  case h_7 => exact absurd rfl h7
  case h_8 => exact absurd rfl h8
  case h_1 => exact (rfl : _ = (State.resetWith Params.suggested).statusWord).trans (by decide)
  case h_2 => exact (rfl : _ = (State.resetWith Params.suggested).resultWord).trans (by decide)
  case h_21 => exact (rfl : _ = (State.resetWith Params.suggested).lastWord).trans (by decide)
  case h_23 | h_25 | h_27 => exact BitVec.extractLsb'_zero
  all_goals rfl

/-- Settles O40: the table of R61 read through the host port. -/
theorem resetState : Obligations.ResetState :=
  have hzero (p : Params) (n : Nat) := readCsr_resetWith_eq_zero p (n := n)
  ⟨fun p => ⟨hzero p 1 (by decide) (by decide) (by decide), hzero p 2 (by decide) (by decide) (by decide), rfl, rfl, rfl,
    hzero p, needBreak_of_not_lastValid rfl false, fun sp _ => by cases sp <;> rfl⟩, rfl⟩

/-! ## The instruction a write to `CTRL` selects -/

theorem fetch_of_ne_transact {s : State} {v : Word} (h : decodeOp v ≠ .transact) : s.fetch v = decodeOp v := by
  unfold State.fetch
  split
  next hv => exact absurd hv h
  next => rfl

theorem fetch_of_transact {s : State} {v : Word} (h : decodeOp v = .transact) :
    s.fetch v = s.carried.getD .transact := by
  unfold State.fetch
  rw [h]
  cases s.carried <;> rfl

/-- `TRANSACT` is the operation of code 1 (R125). -/
theorem decodeOp_eq_transact_iff (v : Word) : decodeOp v = .transact ↔ v.extractLsb' 0 4 = 1 := by
  have hcode := opCode_decodeOp v
  constructor
  · intro h
    rw [h] at hcode
    exact (Option.some.inj hcode).symm
  · intro h
    rw [h] at hcode
    revert hcode
    unfold decodeOp
    split <;> decide

/-- What a write of `v` to `CTRL` runs: the operation of its low bits, a `TRANSACT` as the command its descriptor spells, where it
spells one (R41, R120, R126, R128). -/
theorem fetch_spec (s : State) (v : Word) :
    (v.extractLsb' 0 4 ≠ 1 → s.fetch v = decodeOp v) ∧
    (v.extractLsb' 0 4 = 1 → (∀ j, decodeCommand s.descriptor s.xbody = .ok j → s.fetch v = j) ∧
      ∀ e, decodeCommand s.descriptor s.xbody = .error e → s.fetch v = .transact) := by
  rw [ne_eq, ← decodeOp_eq_transact_iff]
  refine ⟨fetch_of_ne_transact, fun h => ⟨fun j hj => ?_, fun e he => ?_⟩⟩ <;> rw [fetch_of_transact h, State.carried]
  · rw [hj]; rfl
  · rw [he]; rfl

theorem hostPhase_ctrl {s : State} {v : Word} (h : s.cur.host = .wrCsr 0 v) : s.hostPhase = exec (s.fetch v) s := by
  rw [State.hostPhase, h]
  exact if_pos rfl

/-- Settles O37: the instruction is the one the record taken fetches. -/
theorem stepRunsOperation : Obligations.StepRunsOperation := by
  intro s c rest v hin hrst hhost r spelled
  have hlatch : s.latch = r := latch_cons s c rest hin
  have hphase : r.hostPhase = exec (r.fetch v) r := hostPhase_ctrl hhost
  have hbody : r.xbody = s.readBytes .xb 0 (s.cmd1.extractLsb' 24 8).toNat := 
    readBytes_of_buffer (s := s) (t := r) (sp := .xb) rfl _ _
  have hspelled : decodeCommand r.descriptor r.xbody = spelled := by rw [hbody]; rfl
  obtain ⟨hop, hcommand⟩ := fetch_spec r v
  rw [hspelled] at hcommand
  obtain ⟨⟨t, ht⟩, hbusy⟩ := everyOperationGoesOn (r.fetch v) r
  refine ⟨r.fetch v, hop, hcommand, fun hb => ⟨t, ht, ?_⟩, fun hb => ⟨hbusy hb, ?_⟩⟩
  · refine step_phases (a := t) (by rw [hlatch]; exact hrst) (by rw [hlatch, hphase, ht]) (enginePhase_quiescent t hb)
  · have hstep : step s = r.phases := by
      rw [step, hlatch, State.stepLatched, show r.cur.rst = false from hrst]; rfl
    rw [hstep, State.phases, hphase, hbusy hb]
    rfl

end Sys2Proof.Machine

/-! # What the host phase leaves alone, and what it reads (R59, R78, R79, R290 to R295) -/

namespace Sys2Proof.Machine

variable {s t a u : State}

/-! ## Operations -/

/-- The break tracking, the overrun flag, the input and the outputs are as before. -/
structure State.SameRecord (s t : State) : Prop where
  lastValid : t.lastValid = s.lastValid
  lastAddr  : t.lastAddr = s.lastAddr
  lastT     : t.lastT = s.lastT
  ovr       : t.ovr = s.ovr
  cur       : t.cur = s.cur
  out       : t.out = s.out

theorem State.SameRecord.refl : s.SameRecord s := ⟨rfl, rfl, rfl, rfl, rfl, rfl⟩

theorem State.SameRecord.trans (h : s.SameRecord t) (h' : t.SameRecord u) : s.SameRecord u :=
  ⟨h'.lastValid.trans h.lastValid, h'.lastAddr.trans h.lastAddr, h'.lastT.trans h.lastT, h'.ovr.trans h.ovr, h'.cur.trans h.cur,
    h'.out.trans h.out⟩

theorem accepted_sameRecord (s : State) : s.SameRecord s.accepted := ⟨rfl, rfl, rfl, rfl, rfl, rfl⟩

theorem completed_sameRecord (s : State) : s.SameRecord s.completed := ⟨rfl, rfl, rfl, rfl, rfl, rfl⟩

theorem raiseSync_sameRecord (s : State) (e : ErrKind) : s.SameRecord (s.raiseSync e) := ⟨rfl, rfl, rfl, rfl, rfl, rfl⟩

theorem startAttempt_sameRecord (s : State) (isRetry : Bool) : s.SameRecord (s.startAttempt isRetry) := by
  rw [startAttempt_eq]
  split <;> exact ⟨rfl, rfl, rfl, rfl, rfl, rfl⟩

theorem formatInto_sameRecord (s : State) (w : List Byte) : s.SameRecord (s.formatInto w) := by
  rw [formatInto_eq]
  exact ⟨rfl, rfl, rfl, rfl, rfl, rfl⟩

theorem beginTransaction_sameRecord (s : State) (fmt : Framing) (built : Except ErrKind (List Byte)) :
    s.SameRecord (s.beginTransaction fmt built) := by
  cases hc : s.construct true built with
  | error e => rw [beginTransaction_error hc]; exact ⟨rfl, rfl, rfl, rfl, rfl, rfl⟩
  | ok w =>
    rw [beginTransaction_ok hc]
    refine State.SameRecord.trans ?_ (startAttempt_sameRecord _ false)
    rw [formatInto_eq]
    exact ⟨rfl, rfl, rfl, rfl, rfl, rfl⟩

theorem accept_sameRecord (hb : s.busy = false) {op : State → State} (ht : accept s op = .next t)
    (hop : s.accepted.SameRecord (op s.accepted)) : s.SameRecord t := by
  rw [accept_quiescent hb] at ht
  cases ht
  exact (accepted_sameRecord s).trans hop

theorem execTransact_sameRecord (hb : s.busy = false) (ht : execTransact s = .next t) : s.SameRecord t :=
  accept_sameRecord hb ht (beginTransaction_sameRecord ..)

theorem execNop_sameRecord (hb : s.busy = false) (ht : execNop s = .next t) : s.SameRecord t :=
  accept_sameRecord hb ht (completed_sameRecord _)

theorem execCmdFormat_sameRecord (hb : s.busy = false) (ht : execCmdFormat s = .next t) : s.SameRecord t := by
  refine accept_sameRecord hb ht ?_
  split
  · exact ⟨rfl, rfl, rfl, rfl, rfl, rfl⟩
  · exact (formatInto_sameRecord ..).trans (completed_sameRecord _)

theorem execAddrCheck_sameRecord (hb : s.busy = false) (ht : execAddrCheck s = .next t) : s.SameRecord t := by
  refine accept_sameRecord hb ht ?_
  split
  · exact completed_sameRecord _
  · exact raiseSync_sameRecord ..

theorem execCrcCompute_sameRecord (hb : s.busy = false) (ht : execCrcCompute s = .next t) : s.SameRecord t := by
  refine accept_sameRecord hb ht ?_
  split
  · exact raiseSync_sameRecord ..
  · exact ⟨rfl, rfl, rfl, rfl, rfl, rfl⟩

theorem execCrcEncAscii_sameRecord (hb : s.busy = false) (ht : execCrcEncAscii s = .next t) : s.SameRecord t :=
  accept_sameRecord hb ht ⟨rfl, rfl, rfl, rfl, rfl, rfl⟩

theorem execCrcDecAscii_sameRecord (hb : s.busy = false) (ht : execCrcDecAscii s = .next t) : s.SameRecord t := by
  refine accept_sameRecord hb ht ?_
  split
  · exact ⟨rfl, rfl, rfl, rfl, rfl, rfl⟩
  · exact raiseSync_sameRecord ..

theorem execCrcVerify_sameRecord (hb : s.busy = false) (ht : execCrcVerify s = .next t) : s.SameRecord t := by
  refine accept_sameRecord hb ht ?_
  split
  · exact raiseSync_sameRecord ..
  · split <;> exact ⟨rfl, rfl, rfl, rfl, rfl, rfl⟩

theorem reservedOperation_sameRecord (hb : s.busy = false) (ht : reservedOperation s = .next t) : s.SameRecord t :=
  accept_sameRecord hb ht (raiseSync_sameRecord ..)

/-- No operation but `CLEAR` touches the break tracking, the overrun flag, the input or the outputs (R293 to R295). -/
theorem exec_sameRecord (hb : s.busy = false) {i : Instr} (hop : (opCode i).isSome = true) (hi : i ≠ .clear)
    (ht : exec i s = .next t) : s.SameRecord t := by
  cases i
  case nop => exact execNop_sameRecord hb ht
  case transact => exact execTransact_sameRecord hb ht
  case cmdFormat => exact execCmdFormat_sameRecord hb ht
  case addrCheck => exact execAddrCheck_sameRecord hb ht
  case crcCompute => exact execCrcCompute_sameRecord hb ht
  case crcEncAscii => exact execCrcEncAscii_sameRecord hb ht
  case crcDecAscii => exact execCrcDecAscii_sameRecord hb ht
  case crcVerify => exact execCrcVerify_sameRecord hb ht
  case clear => exact absurd rfl hi
  case reservedOp9 | reservedOpA | reservedOpB | reservedOpC | reservedOpD | reservedOpE | reservedOpF =>
    exact reservedOperation_sameRecord hb ht
  all_goals cases hop

/-- `CLEAR` drops the overrun flag, and leaves the rest of the record (R295). -/
theorem execClear_sameRecord (hb : s.busy = false) (ht : exec .clear s = .next t) :
    State.SameRecord { s with ovr := false } t := by
  rw [exec, execClear, accept_quiescent hb] at ht
  cases ht
  exact ⟨rfl, rfl, rfl, rfl, rfl, rfl⟩

/-! ## The host phase -/

/-- The access is one that a busy state refuses (R292): a write to `CTRL` or to a writable register, or a buffer access in
range. -/
def State.refusesAccess (s : State) : Bool :=
  match s.cur.host with
  | .idle => false
  | .rdCsr _ => false
  | .wrCsr n _ => decide (n = 0) || isWritableCsr n
  | .rdBuf sp i => decide (i.toNat < s.size sp)
  | .wrBuf sp i _ => decide (i.toNat < s.size sp)

/-- The read data the host phase leaves (R58, R78, R79, R292). -/
def State.hostData (s : State) : Word :=
  match s.cur.host with
  | .idle => s.out.rdata
  | .rdCsr n => s.readCsr n
  | .wrCsr _ _ => s.out.rdata
  | .rdBuf sp i => if i.toNat < s.size sp ∧ s.busy = false then (s.read sp i.toNat).setWidth 32 else 0
  | .wrBuf _ _ _ => s.out.rdata

/-- While busy, the host phase sets the overrun flag for a refused access, answers a read, and does nothing else (R290, R292). -/
theorem hostPhase_busy (hb : s.busy = true) :
    s.hostPhase = .next { s with ovr := s.ovr || s.refusesAccess, out := { s.out with rdata := s.hostData } } := by
  unfold State.hostPhase State.refusesAccess State.hostData
  cases s.cur.host with
  | idle => simp
  | rdCsr n => simp [State.answer]
  | wrCsr n v =>
    by_cases hn : n = 0
    · obtain ⟨op, hop⟩ := exec_eq_accept (s.fetch v) s
      simp [hn, hop, accept_busy hb]
    · cases hw : isWritableCsr n <;> simp [hn, hw, State.hostWriteCsr, State.refuse, hb]
  | rdBuf sp i =>
    by_cases hi : s.size sp ≤ i.toNat
    · simp [State.hostReadBuf, hi, State.answer]
    · simp [State.hostReadBuf, hi, State.answer, State.refuse, hb]; omega
  | wrBuf sp i v =>
    by_cases hi : s.size sp ≤ i.toNat
    · simp [State.hostWriteBuf, hi, Nat.not_lt.2 hi]
    · simp [State.hostWriteBuf, hi, State.refuse, hb]; omega

theorem writeCsr_sameRecord (s : State) (n : Nat) (v : Word) : s.SameRecord (s.writeCsr n v) := by
  unfold State.writeCsr
  split <;> exact ⟨rfl, rfl, rfl, rfl, rfl, rfl⟩

theorem write_sameRecord (s : State) (sp : Space) (i : Nat) (v : Byte) : s.SameRecord (s.write sp i v) := by
  cases sp <;> exact ⟨rfl, rfl, rfl, rfl, rfl, rfl⟩

theorem hostWriteCsr_sameRecord (hb : s.busy = false) (n : Nat) (v : Word) : s.SameRecord (s.hostWriteCsr n v) := by
  unfold State.hostWriteCsr
  rw [hb]
  split
  · exact writeCsr_sameRecord s n v
  · exact .refl

theorem hostWriteBuf_sameRecord (hb : s.busy = false) (sp : Space) (i : Nat) (v : Byte) :
    s.SameRecord (s.hostWriteBuf sp i v) := by
  unfold State.hostWriteBuf
  rw [hb]
  split
  · exact .refl
  · exact write_sameRecord s sp i v

theorem hostReadBuf_eq (hb : s.busy = false) (sp : Space) (i : Nat) :
    s.hostReadBuf sp i = s.answer (if i < s.size sp ∧ s.busy = false then (s.read sp i).setWidth 32 else 0) := by
  unfold State.hostReadBuf
  rw [hb]
  by_cases hi : s.size sp ≤ i
  · rw [if_pos hi, if_neg fun h => absurd h.1 (Nat.not_lt.2 hi)]
  · rw [if_neg hi, if_neg Bool.false_ne_true, if_pos ⟨Nat.lt_of_not_le hi, rfl⟩]

/-- A quiescent host phase answers a read and leaves the rest of the record, but for `CLEAR`. -/
theorem hostPhase_quiescent (hb : s.busy = false) (ha : s.hostPhase = .next a) :
    (s.answer s.hostData).SameRecord a ∨
      (State.SameRecord { s with ovr := false } a ∧ s.hostData = s.out.rdata ∧
        ∃ v, s.cur.host = .wrCsr 0 v ∧ decodeOp v = .clear) := by
  have hkept (h : s.hostData = s.out.rdata) : s.answer s.hostData = s := by rw [h]; rfl
  cases hhost : s.cur.host with
  | idle =>
    rw [State.hostPhase, hhost] at ha
    cases ha
    rw [hkept (by rw [State.hostData, hhost])]
    exact .inl .refl
  | rdCsr n =>
    rw [hostPhase_rdCsr hhost] at ha
    cases ha
    rw [State.hostData, hhost]
    exact .inl .refl
  | wrCsr n v =>
    have hdata : s.hostData = s.out.rdata := by rw [State.hostData, hhost]
    rw [hkept hdata]
    by_cases hn : n = 0
    · subst hn
      rw [hostPhase_ctrl hhost, exec_fetch] at ha
      by_cases hc : decodeOp v = .clear
      · rw [hc] at ha
        exact .inr ⟨execClear_sameRecord hb ha, hdata, v, rfl, hc⟩
      · exact .inl (exec_sameRecord hb (decodeOp_isOperation v) hc ha)
    · rw [State.hostPhase, hhost] at ha
      cases (if_neg hn).symm.trans ha
      exact .inl (hostWriteCsr_sameRecord hb n v)
  | rdBuf sp i =>
    rw [State.hostPhase, hhost] at ha
    cases ha
    rw [State.hostData, hhost, hostReadBuf_eq hb]
    exact .inl .refl
  | wrBuf sp i v =>
    rw [State.hostPhase, hhost] at ha
    cases ha
    rw [hkept (by rw [State.hostData, hhost])]
    exact .inl (hostWriteBuf_sameRecord hb sp _ v)

end Sys2Proof.Machine

/-! # What an engine phase does, and what a step makes of it (R37, R59, R79, R248, R292, R308, R311, R377): O38, O44, O45, O60 -/

namespace Sys2Proof.Machine

variable {s t a u : State}

/-! ## The moves of the engine -/

/-- What the engine phase of a step that began in state `q` makes of `a` (R242, R243, R248, R270, R307 to R311). -/
inductive State.EngineMove (a : State) : FsmState → State → Prop
  | stay (q : FsmState) : a.EngineMove q a
  | abort (q : FsmState) : a.EngineMove q (a.failFinal .timeout)
  | fail (q : FsmState) (e : ErrKind) (sub : Byte) : a.EngineMove q (a.attemptFail e sub)
  | endBreak : a.EngineMove .breakSent { a with breakO := false, t0 := a.cur.now, state := .markingWait }
  | endMarking : a.EngineMove .markingWait { a with txPtr := 0, state := .commandSent }
  | send (hptr : a.txPtr < a.txLen) (hready : a.cur.txReady = true) : a.EngineMove .commandSent a.sendNext
  | await : a.EngineMove .commandSent a.enterAwaiting
  | store (c : Byte) : a.EngineMove .awaitingResponse (a.storeByte c)
  | succeed : a.EngineMove .validating a.enterSuccess
  | again : a.EngineMove .retry (State.startAttempt { a with retryCnt := a.retryCnt + 1 } true)
  | giveUp : a.EngineMove .retry a.enterFailed

theorem sendGuard_move {q : FsmState} {k : StepOutcome} (hk : k = .next u → a.EngineMove q u) (hu : a.sendGuard k = .next u) :
    a.EngineMove q u := by
  rcases sendGuard_cases a k with ⟨-, g⟩ | ⟨e, -, -, g⟩ | ⟨-, -, g⟩ <;> rw [g] at hu
  · cases hu; exact .abort q
  · cases hu; exact .fail q ..
  · exact hk hu

theorem commandSentPhase_move (hu : a.commandSentPhase = .next u) : a.EngineMove .commandSent u := by
  refine sendGuard_move (fun hk => ?_) hu
  split at hk
  next hptr =>
    split at hk
    next hready => split at hk <;> cases hk; exact .send hptr hready
    next => cases hk; exact .stay _
  next =>
    split at hk <;> cases hk
    · exact .await
    · exact .stay _

theorem receive_move (hu : a.receive = .next u) : a.EngineMove .awaitingResponse u := by
  unfold State.receive at hu
  split at hu
  next => cases hu; exact .stay _
  next => cases hu; exact .fail ..
  next =>
    split at hu
    next => cases hu; exact .fail ..
    next c _ => split at hu <;> cases hu; exact .store c

theorem awaitingPhase_move (hu : a.awaitingPhase = .next u) : a.EngineMove .awaitingResponse u := by
  unfold State.awaitingPhase at hu
  split at hu
  · cases hu; exact .abort _
  split at hu
  · cases hu; exact .fail ..
  split at hu
  · cases hu; exact .fail ..
  · exact receive_move hu

theorem validatingPhase_move (hu : a.validatingPhase = .next u) : a.EngineMove .validating u := by
  unfold State.validatingPhase at hu
  split at hu
  · cases hu
  · split at hu <;> cases hu
    · exact .fail ..
    · exact .succeed

theorem retryPhase_move (hu : a.retryPhase = .next u) : a.EngineMove .retry u := by
  unfold State.retryPhase at hu
  split at hu <;> cases hu
  · exact .again
  · exact .giveUp

/-- An engine phase that answers a next state makes one of its moves. -/
theorem enginePhase_move {q : FsmState} (hu : a.enginePhase q = .next u) : a.EngineMove q u := by
  cases q
  case idle | success | failed => cases hu; exact .stay _
  case breakSent =>
    refine sendGuard_move (fun hk => ?_) hu
    split at hk <;> cases hk
    · exact .endBreak
    · exact .stay _
  case markingWait =>
    refine sendGuard_move (fun hk => ?_) hu
    split at hk <;> cases hk
    · exact .endMarking
    · exact .stay _
  case commandSent => exact commandSentPhase_move hu
  case awaitingResponse => exact awaitingPhase_move hu
  case validating => exact validatingPhase_move hu
  case retry => exact retryPhase_move hu

/-! ## What the moves leave alone -/

theorem storeByte_sameRecord (a : State) (c : Byte) : a.SameRecord (a.storeByte c) := by
  unfold State.storeByte
  split
  · unfold State.endAscii
    split <;> exact ⟨rfl, rfl, rfl, rfl, rfl, rfl⟩
  · rcases endBinary_cases (a.keepByte c) with g | ⟨g, -⟩ | ⟨g, -⟩ <;> rw [g, noteSize_eq]
    all_goals exact ⟨rfl, rfl, rfl, rfl, rfl, rfl⟩

/-- The moves that touch the break tracking or the outputs: a byte handed over, the overall deadline, and the two ends of a
transaction (R248, R308, R311). -/
theorem State.EngineMove.cases_record {q : FsmState} (h : a.EngineMove q u) :
    a.SameRecord u ∨ (u = a.sendNext ∧ q = .commandSent ∧ a.txPtr < a.txLen ∧ a.cur.txReady = true) ∨
      (u = a.failFinal .timeout ∨ u = a.enterFailed) ∨ (u = a.enterSuccess ∧ q = .validating) := by
  cases h with
  | stay => exact .inl .refl
  | abort => exact .inr (.inr (.inl (.inl rfl)))
  | fail => exact .inl ⟨rfl, rfl, rfl, rfl, rfl, rfl⟩
  | endBreak => exact .inl ⟨rfl, rfl, rfl, rfl, rfl, rfl⟩
  | endMarking => exact .inl ⟨rfl, rfl, rfl, rfl, rfl, rfl⟩
  | send hptr hready => exact .inr (.inl ⟨rfl, rfl, hptr, hready⟩)
  | await => exact .inl ⟨rfl, rfl, rfl, rfl, rfl, rfl⟩
  | store c => exact .inl (storeByte_sameRecord a c)
  | succeed => exact .inr (.inr (.inr ⟨rfl, rfl⟩))
  | again =>
    refine .inl (State.SameRecord.trans ?_ (startAttempt_sameRecord { a with retryCnt := a.retryCnt + 1 } true))
    exact ⟨rfl, rfl, rfl, rfl, rfl, rfl⟩
  | giveUp => exact .inr (.inr (.inl (.inr rfl)))

theorem State.EngineMove.ovr_eq {q : FsmState} (h : a.EngineMove q u) : u.ovr = a.ovr := by
  rcases h.cases_record with h | ⟨rfl, -⟩ | (rfl | rfl) | ⟨rfl, -⟩
  · exact h.ovr
  all_goals rfl

theorem State.EngineMove.rdata_eq {q : FsmState} (h : a.EngineMove q u) : u.out.rdata = a.out.rdata := by
  rcases h.cases_record with h | ⟨rfl, -⟩ | (rfl | rfl) | ⟨rfl, -⟩
  · rw [h.out]
  all_goals rfl

/-- A byte leaves in `CommandSent` only, when the transport takes it, and it is the next of the command (R246 to R248). -/
theorem State.EngineMove.tx_eq {q : FsmState} (h : a.EngineMove q u) :
    u.out.tx = a.out.tx ∨
      (u.out.tx = some (lineByte .ascii7E1 (a.read .tx a.txPtr.toNat)) ∧ q = .commandSent ∧ a.txPtr < a.txLen ∧
        a.cur.txReady = true) := by
  rcases h.cases_record with h | ⟨rfl, hsend⟩ | (rfl | rfl) | ⟨rfl, -⟩
  · exact .inl (by rw [h.out])
  · exact .inr ⟨rfl, hsend⟩
  all_goals exact .inl rfl

/-- The break tracking changes on the entries to `Success` and `Failed` only (R37, R308, R311). -/
theorem State.EngineMove.tracking {q : FsmState} (h : a.EngineMove q u) :
    (u.lastAddr ≠ a.lastAddr ∨ u.lastT ≠ a.lastT → q = .validating ∧ u.state = .success) ∧
    (u.lastValid ≠ a.lastValid → u.state = if u.lastValid = true then .success else .failed) := by
  have hkept (haddr : u.lastAddr = a.lastAddr) (ht : u.lastT = a.lastT) :
      u.lastAddr ≠ a.lastAddr ∨ u.lastT ≠ a.lastT → q = .validating ∧ u.state = .success :=
    fun hne => hne.elim (absurd haddr) (absurd ht)
  rcases h.cases_record with h | ⟨rfl, -⟩ | (rfl | rfl) | ⟨rfl, hq⟩
  · exact ⟨hkept h.lastAddr h.lastT, fun hne => absurd h.lastValid hne⟩
  · exact ⟨hkept rfl rfl, fun hne => absurd rfl hne⟩
  · exact ⟨hkept rfl rfl, fun _ => rfl⟩
  · exact ⟨hkept rfl rfl, fun _ => rfl⟩
  · exact ⟨fun _ => ⟨hq, rfl⟩, fun _ => rfl⟩

/-! ## A step that is no reset step -/

theorem hostPhase_cur (ha : s.hostPhase = .next a) : a.cur = s.cur := by
  cases hb : s.busy with
  | true => rw [hostPhase_busy hb] at ha; cases ha; rfl
  | false =>
    rcases hostPhase_quiescent hb ha with h | ⟨h, -⟩
    · exact h.cur
    · exact h.cur

/-- A host phase leaves the break tracking alone (R37), and sets no other output than the read data (R290). -/
theorem hostPhase_record (ha : s.hostPhase = .next a) :
    a.lastValid = s.lastValid ∧ a.lastAddr = s.lastAddr ∧ a.lastT = s.lastT ∧ a.out = { s.out with rdata := s.hostData } := by
  cases hb : s.busy with
  | true => rw [hostPhase_busy hb] at ha; cases ha; exact ⟨rfl, rfl, rfl, rfl⟩
  | false =>
    rcases hostPhase_quiescent hb ha with h | ⟨h, hdata, -⟩
    · exact ⟨h.lastValid, h.lastAddr, h.lastT, h.out⟩
    · exact ⟨h.lastValid, h.lastAddr, h.lastT, h.out.trans (by rw [hdata])⟩

/-- The host phase of the record taken, then a move of the engine, none in a quiescent state, then the outputs (R290). -/
theorem step_moves (h : step s = .next t) (hr : t.cur.rst = false) :
    ∃ a u, s.latch.hostPhase = .next a ∧ a.EngineMove s.state u ∧ (s.busy = false → u = a) ∧ t = u.drive ∧
      s.latch.cur = t.cur := by
  rcases step_cases h with ⟨hrst, rfl⟩ | ⟨-, a, u, ha, hu, rfl⟩
  · exact absurd (hrst.symm.trans hr) (by decide)
  · refine ⟨a, u, ha, enginePhase_move hu, fun hb => ?_, rfl, ((enginePhase_cur hu).trans (hostPhase_cur ha)).symm⟩
    rw [enginePhase_quiescent a hb] at hu
    cases hu; rfl

/-- The state a step runs in, its record taken: the one before but for the input and the outputs to come (R290). -/
theorem latch_record (s : State) :
    ∃ inputs envIdx cur, s.latch =
      { s with inputs := inputs, envIdx := envIdx, cur := cur, out := { s.out with tx := none, rdata := 0 } } :=
  ⟨_, _, _, latch_eq s⟩

/-! ## The break tracking -/

/-- Settles O44: neither the record taken nor the host phase touches the break tracking, and a quiescent engine makes no move. -/
theorem breakTrackingChanges : Obligations.BreakTrackingChanges := by
  intro s t ht hr
  obtain ⟨a, u, ha, hmove, hrest, rfl, -⟩ := step_moves ht hr
  obtain ⟨hvalid, haddr, hlast, -⟩ := hostPhase_record ha
  obtain ⟨inputs, envIdx, cur, hlatch⟩ := latch_record s
  obtain ⟨hentry, hflag⟩ := hmove.tracking
  rw [hlatch] at hvalid haddr hlast
  rw [haddr, hlast] at hentry
  rw [hvalid] at hflag
  refine ⟨hentry, hflag, fun hb => ?_⟩
  rw [hrest hb]
  exact hvalid

/-! ## The outputs -/

theorem readCsr_latch (s : State) (n : Nat) : s.latch.readCsr n = State.readCsr { s with cur := s.latch.cur } n := by
  rw [latch_eq]
  unfold State.readCsr
  split <;> rfl

/-- A byte is handed over in `CommandSent` only, and comes from the registers and `TXBUF` of the state before the step: the host
phase of a busy step leaves them (R248, R292). -/
theorem step_tx (ha : s.latch.hostPhase = .next a) (hmove : a.EngineMove s.state u) {lb : Byte} (htx : u.out.tx = some lb) :
    s.state = .commandSent ∧ s.latch.cur.txReady = true ∧ s.txPtr < s.txLen ∧
      lb = lineByte .ascii7E1 (s.read .tx s.txPtr.toNat) := by
  obtain ⟨-, -, -, hout⟩ := hostPhase_record ha
  obtain ⟨inputs, envIdx, cur, hlatch⟩ := latch_record s
  rcases hmove.tx_eq with hnone | ⟨hsent, hq, hptr, hready⟩
  · rw [hnone, hout, hlatch] at htx
    cases htx
  · have hb : s.latch.busy = true := by rw [hlatch]; exact state_busy hq rfl
    rw [hostPhase_busy hb, hlatch] at ha
    cases ha
    rw [hlatch]
    exact ⟨hq, hready, hptr, Option.some.inj (htx.symm.trans hsent)⟩

/-- Settles O38: the outputs driven at the end, the byte of a move, and the data of the host phase. -/
theorem stepOutputs : Obligations.StepOutputs := by
  intro s t ht hr
  obtain ⟨a, u, ha, hmove, -, rfl, hcur⟩ := step_moves ht hr
  obtain ⟨-, -, -, hout⟩ := hostPhase_record ha
  have hdata : u.drive.out.rdata = s.latch.hostData := hmove.rdata_eq.trans (by rw [hout])
  refine ⟨rfl, rfl, Bool.and_eq_true_iff, fun lb htx => ?_, ?_⟩
  · rw [← hcur]; exact step_tx ha hmove htx
  rw [hdata, ← hcur, State.hostData]
  obtain ⟨inputs, envIdx, cur, hlatch⟩ := latch_record s
  cases hhost : s.latch.cur.host with
  | rdCsr n => exact readCsr_latch s n
  | idle | wrCsr | wrBuf => exact congrArg (fun r : State => r.out.rdata) hlatch
  | rdBuf sp i => rw [hlatch]; rfl

/-! ## The overrun flag -/

theorem extractLsb'_of_decodeOp_clear {v : Word} (h : decodeOp v = .clear) : v.extractLsb' 0 4 = 8 := by
  have hcode := opCode_decodeOp v
  rw [h] at hcode
  exact (Option.some.inj hcode).symm

theorem refusesAccess_iff :
    s.refusesAccess = true ↔
      (∃ n v, s.cur.host = .wrCsr n v ∧ (n = 0 ∨ csrMask n ≠ 0)) ∨
        ∃ sp i, (s.cur.host = .rdBuf sp i ∨ ∃ v, s.cur.host = .wrBuf sp i v) ∧ i.toNat < s.size sp := by
  unfold State.refusesAccess
  cases s.cur.host <;> simp [← csrMask_ne_zero_iff]

/-- The flag after a busy step: a refused access sets it, nothing clears it (R32, R292). -/
theorem step_ovr_busy (h : step s = .next t) (hr : t.cur.rst = false) (hb : s.busy = true) :
    t.ovr = (s.ovr || s.latch.refusesAccess) := by
  obtain ⟨a, u, ha, hmove, -, rfl, -⟩ := step_moves h hr
  obtain ⟨inputs, envIdx, cur, hlatch⟩ := latch_record s
  have hbl : s.latch.busy = true := by rw [hlatch]; exact hb
  rw [hostPhase_busy hbl] at ha
  cases ha
  refine hmove.ovr_eq.trans ?_
  rw [hlatch]

/-- The accesses a busy step refuses, by the record it took (R79, R292; log 7). -/
theorem refuses_latch_iff (h : step s = .next t) (hr : t.cur.rst = false) :
    s.latch.refusesAccess = true ↔
      (∃ n v, t.cur.host = .wrCsr n v ∧ (n = 0 ∨ csrMask n ≠ 0)) ∨
        ∃ sp i, (t.cur.host = .rdBuf sp i ∨ ∃ v, t.cur.host = .wrBuf sp i v) ∧ i.toNat < s.size sp := by
  obtain ⟨-, -, -, -, -, -, hcur⟩ := step_moves h hr
  have hsize : s.latch.size = s.size := by rw [latch_eq]; rfl
  rw [refusesAccess_iff, hcur, hsize]

/-- The flag after a quiescent step: `CLEAR` drops it, nothing sets it (R295). -/
theorem step_ovr_quiescent (h : step s = .next t) (hr : t.cur.rst = false) (hb : s.busy = false) :
    t.ovr = s.ovr ∨ (t.ovr = false ∧ ∃ v, t.cur.host = .wrCsr 0 v ∧ decodeOp v = .clear) := by
  obtain ⟨a, u, ha, -, hrest, rfl, hcur⟩ := step_moves h hr
  obtain ⟨inputs, envIdx, cur, hlatch⟩ := latch_record s
  have hbl : s.latch.busy = false := by rw [hlatch]; exact hb
  have hovr : s.latch.ovr = s.ovr := by rw [hlatch]
  cases hrest hb
  rcases hostPhase_quiescent hbl ha with hsame | ⟨hsame, -, v, hhost, hclear⟩
  · exact .inl (hsame.ovr.trans hovr)
  · exact .inr ⟨hsame.ovr, v, by rw [← hcur]; exact hhost, hclear⟩

/-- Settles O45, by what a busy and what a quiescent step make of the flag. -/
theorem overrunIsSticky : Obligations.OverrunIsSticky := by
  intro s t ht hr
  cases hb : s.busy with
  | true =>
    have hovr := step_ovr_busy ht hr hb
    refine ⟨fun hset hclear => ?_, fun hclear => ?_⟩
    · rw [hovr, hset] at hclear
      cases hclear
    · rw [hovr, hclear, Bool.false_or, refuses_latch_iff ht hr]
      exact (and_iff_right rfl).symm
  | false =>
    have hnot {P : Prop} (hclear : s.ovr = false) : t.ovr = true ↔ false = true ∧ P := by
      refine iff_of_false (fun hset => ?_) fun h => Bool.false_ne_true h.1
      rcases step_ovr_quiescent ht hr hb with hovr | ⟨hovr, -⟩
      · rw [hovr, hclear] at hset; cases hset
      · rw [hovr] at hset; cases hset
    refine ⟨fun hset hclear => ?_, hnot⟩
    rcases step_ovr_quiescent ht hr hb with hovr | ⟨-, v, hhost, hop⟩
    · rw [hovr, hset] at hclear; cases hclear
    · exact ⟨rfl, v, hhost, extractLsb'_of_decodeOp_clear hop⟩

/-! ## A host that keeps its hands off -/

/-- The duty of R377 in a busy step: none of the accesses that are refused. -/
theorem handsOff_not_refused {e : EnvStep} (hcur : e.before.latch.cur = e.after.cur) (hr : e.after.cur.rst = false)
    (hb : e.before.busy = true) (hoff : e.handsOff = true) : e.before.latch.refusesAccess = false := by
  have hhost : e.host = e.before.latch.cur.host := by rw [EnvStep.host, hr, hcur]; rfl
  rw [EnvStep.handsOff, hhost, hb] at hoff
  unfold State.refusesAccess
  cases h : e.before.latch.cur.host with
  | idle | rdCsr => rfl
  | wrCsr | rdBuf | wrBuf => rw [h] at hoff; cases hoff

/-- Settles O60: what R377 forbids is what a busy host phase refuses. -/
theorem handsOffHost : Obligations.HandsOffHost := by
  intro e ht hr hoff
  obtain ⟨a, u, ha, hmove, -, htu, hcur⟩ := step_moves ht hr
  cases hb : e.before.busy with
  | false =>
    refine ⟨fun hclear => ?_, fun hbusy => absurd hbusy Bool.false_ne_true⟩
    rcases step_ovr_quiescent ht hr hb with hovr | ⟨hovr, -⟩
    · exact hovr.trans hclear
    · exact hovr
  | true =>
    have hnot := handsOff_not_refused hcur hr hb hoff
    have hovr : e.after.ovr = e.before.ovr := by rw [step_ovr_busy ht hr hb, hnot, Bool.or_false]
    have hbl : e.before.latch.busy = true := by rw [latch_eq]; exact hb
    obtain ⟨-, -, -, hout⟩ := hostPhase_record ha
    have hdata : e.after.out.rdata = e.before.latch.hostData := by
      rw [htu]; exact hmove.rdata_eq.trans (by rw [hout])
    refine ⟨fun hclear => hovr.trans hclear, fun _ => ⟨hovr, ?_⟩⟩
    rw [hostPhase_busy hbl, hnot, Bool.or_false, hdata]

end Sys2Proof.Machine

/-! # Every step from the invariant goes on (R77, R290, R315; log 8): O59 -/

namespace Sys2Proof.Machine

variable {s t a u : State}

theorem goesOn_next (s : State) : GoesOn (.next s) := ⟨s, rfl⟩

/-- A host access is answered in every state. -/
theorem hostPhase_goesOn (s : State) : GoesOn s.hostPhase := by
  unfold State.hostPhase
  cases s.cur.host with
  | idle | rdCsr | rdBuf | wrBuf => exact goesOn_next _
  | wrCsr n v =>
    dsimp only
    split
    · exact (everyOperationGoesOn (s.fetch v) s).1
    · exact goesOn_next _

/-- The guard of a send-side handler ends in a state of its own, or leaves the outcome to the handler's work. -/
theorem sendGuard_goesOn {k : StepOutcome} (hk : GoesOn k) : GoesOn (s.sendGuard k) := by
  rcases sendGuard_cases s k with ⟨-, g⟩ | ⟨e, -, -, g⟩ | ⟨-, -, g⟩ <;> rw [g]
  · exact goesOn_next _
  · exact goesOn_next _
  · exact hk

theorem breakSentPhase_goesOn (s : State) : GoesOn s.breakSentPhase := by
  refine sendGuard_goesOn ?_
  split <;> exact goesOn_next _

theorem markingWaitPhase_goesOn (s : State) : GoesOn s.markingWaitPhase := by
  refine sendGuard_goesOn ?_
  split <;> exact goesOn_next _

/-- The byte handed over is one of the command, and the command fits `TXBUF`. -/
theorem commandSentPhase_goesOn (hlen : s.txLen.toNat ≤ s.size .tx) : GoesOn s.commandSentPhase := by
  refine sendGuard_goesOn ?_
  split
  next hptr =>
    have hin : ¬s.size .tx ≤ s.txPtr.toNat := by have := BitVec.lt_def.1 hptr; omega
    rw [if_neg hin]
    split <;> exact goesOn_next _
  next => split <;> exact goesOn_next _

/-- A received byte is stored at `r.rx_len`, where `RXBUF` has room. -/
theorem receive_goesOn (hroom : s.rxLen.toNat < s.size .rx) : GoesOn s.receive := by
  unfold State.receive
  split
  next => exact goesOn_next _
  next => exact goesOn_next _
  next =>
    split
    next => exact goesOn_next _
    next => rw [if_neg (Nat.not_le.2 hroom)]; exact goesOn_next _

theorem awaitingPhase_goesOn (hroom : s.rxLen.toNat < s.size .rx) : GoesOn s.awaitingPhase := by
  unfold State.awaitingPhase
  split
  · exact goesOn_next _
  split
  · exact goesOn_next _
  split
  · exact goesOn_next _
  · exact receive_goesOn hroom

/-- The validator reads the received bytes, which fit `RXBUF`. -/
theorem validatingPhase_goesOn (hlen : s.rxLen.toNat ≤ s.size .rx) : GoesOn s.validatingPhase := by
  unfold State.validatingPhase
  rw [if_neg (Nat.not_lt.2 hlen)]
  split <;> exact goesOn_next _

theorem retryPhase_goesOn (s : State) : GoesOn s.retryPhase := by
  unfold State.retryPhase
  split <;> exact goesOn_next _

/-- While a response is awaited the next byte has its place in `RXBUF`: it is below `RX_CAP`, which the construction check
bounds (R23, R175). -/
theorem State.Inv.room (h : s.Inv) (hq : s.state = .awaitingResponse) : s.rxLen.toNat < s.size .rx := by
  have hcap : s.rxCap.toNat ≤ s.size .rx := (h.inCall (state_busy hq rfl)).capacities.2.2
  have hlt := BitVec.lt_def.1 (h.receiving hq).1
  omega

/-- The engine's own accesses are in range (R77): no handler faults in a state with the invariant. -/
theorem enginePhase_goesOn (h : s.Inv) : GoesOn (s.enginePhase s.state) := by
  cases hq : s.state
  case idle | success | failed => exact goesOn_next s
  case breakSent => exact breakSentPhase_goesOn s
  case markingWait => exact markingWaitPhase_goesOn s
  case commandSent => exact commandSentPhase_goesOn h.sizes.1
  case awaitingResponse => exact awaitingPhase_goesOn (h.room hq)
  case validating => exact validatingPhase_goesOn h.sizes.2
  case retry => exact retryPhase_goesOn s

/-- The engine phase after a host phase: a quiescent state has none, and a busy one is where the host phase found it (R290). -/
theorem enginePhase_goesOn_of_hostPhase (h : s.Inv) (ha : s.hostPhase = .next a) : GoesOn (a.enginePhase s.state) := by
  cases hb : s.busy with
  | true =>
    rw [← hostPhase_state_of_busy hb ha]
    exact enginePhase_goesOn (hostPhase_keeps h ha)
  | false =>
    rw [enginePhase_quiescent a hb]
    exact goesOn_next a

/-- Settles O59: the record taken keeps the invariant, then the reset, or each of the two phases answers. -/
theorem invNeverStops : Obligations.InvNeverStops := by
  intro s h
  cases hr : s.latch.cur.rst with
  | true => exact ⟨_, step_reset hr⟩
  | false =>
    have hs : s.latch.state = s.state := by rw [latch_eq]
    obtain ⟨a, ha⟩ := hostPhase_goesOn s.latch
    obtain ⟨u, hu⟩ := enginePhase_goesOn_of_hostPhase (latch_keeps h) ha
    exact ⟨u.drive, step_phases hr ha (by rw [← hs]; exact hu)⟩

end Sys2Proof.Machine

/-! # A buffer access, and what a busy step leaves of the call (R79, R82, R84, R290, R292, R298): O34, O36, O43 -/

namespace Sys2Proof.Machine

variable {s t a u : State}

/-! ## Buffer accesses of the host -/

theorem hostPhase_rdBuf {sp : Space} {i : BitVec 16} (h : s.cur.host = .rdBuf sp i) :
    s.hostPhase = .next (s.hostReadBuf sp i.toNat) := by
  rw [State.hostPhase, h]

theorem hostPhase_wrBuf {sp : Space} {i : BitVec 16} {v : Byte} (h : s.cur.host = .wrBuf sp i v) :
    s.hostPhase = .next (s.hostWriteBuf sp i.toNat v) := by
  rw [State.hostPhase, h]

theorem hostReadBuf_outside {sp : Space} {i : Nat} (h : s.size sp ≤ i) : s.hostReadBuf sp i = s.answer 0 := if_pos h

theorem hostReadBuf_refused {sp : Space} {i : Nat} (h : i < s.size sp) (hb : s.busy = true) :
    s.hostReadBuf sp i = s.refuse.answer 0 :=
  (if_neg (Nat.not_le.2 h)).trans (if_pos hb)

theorem hostReadBuf_inside {sp : Space} {i : Nat} (h : i < s.size sp) (hb : s.busy = false) :
    s.hostReadBuf sp i = s.answer ((s.read sp i).setWidth 32) := by
  rw [hostReadBuf_eq hb, if_pos ⟨h, hb⟩]

theorem hostWriteBuf_outside {sp : Space} {i : Nat} (h : s.size sp ≤ i) (v : Byte) : s.hostWriteBuf sp i v = s := if_pos h

theorem hostWriteBuf_refused {sp : Space} {i : Nat} (h : i < s.size sp) (hb : s.busy = true) (v : Byte) :
    s.hostWriteBuf sp i v = s.refuse :=
  (if_neg (Nat.not_le.2 h)).trans (if_pos hb)

theorem hostWriteBuf_inside {sp : Space} {i : Nat} (h : i < s.size sp) (hb : s.busy = false) (v : Byte) :
    s.hostWriteBuf sp i v = s.write sp i v :=
  (if_neg (Nat.not_le.2 h)).trans (if_neg (by rw [hb]; exact Bool.false_ne_true))

/-- A write to a buffer changes nothing but the buffers. -/
theorem write_eq (s : State) (sp : Space) (i : Nat) (v : Byte) :
    s.write sp i v =
      { s with txbuf := (s.write sp i v).txbuf, rxbuf := (s.write sp i v).rxbuf, xbuf := (s.write sp i v).xbuf } := by
  cases sp <;> rfl

/-- Settles O34: out of range, refused, or the one byte. -/
theorem bufferAccesses : Obligations.BufferAccesses := by
  refine fun s sp i => ⟨fun hhost => ?_, fun v hhost => ?_⟩
  · rw [hostPhase_rdBuf hhost]
    refine ⟨fun hout => ?_, fun hin hb => ?_, fun hin hb => ?_⟩
    · rw [hostReadBuf_outside hout]; rfl
    · rw [hostReadBuf_refused hin hb]; rfl
    · rw [hostReadBuf_inside hin hb]; rfl
  · rw [hostPhase_wrBuf hhost]
    refine ⟨fun hout => ?_, fun hin hb => ?_, fun hin hb => ?_⟩
    · rw [hostWriteBuf_outside hout]
    · rw [hostWriteBuf_refused hin hb]; rfl
    · rw [hostWriteBuf_inside hin hb]
      exact ⟨_, rfl, read_write_same .., fun sq j hother => read_write_other s v hother, write_eq ..⟩

/-! ## The host phase while busy -/

/-- Settles O36: `hostPhase_busy` names the overrun flag and the read data and nothing else. -/
theorem busyHostPhase : Obligations.BusyHostPhase :=
  fun _ hb => ⟨_, hostPhase_busy hb, rfl, fun hovr => Bool.or_eq_true_iff.2 (.inl hovr)⟩

/-! ## The call -/

/-- What a call leaves alone while it runs: the writable registers, the parameters, the command in `TXBUF` with its length and
response format, and the extended body (R82, R84, R298). -/
def State.call (s : State) :=
  (s.cmd0, s.cmd1, s.cfg, s.tOvr, s.txCap, s.rxCap, s.abortLo, s.abortHi, s.crcVal, s.crcTxt, s.crcStart, s.crcEnd, s.crcCtl,
    s.params, s.txLen, s.fmt, s.txbuf, s.xbuf)

theorem startAttempt_call (s : State) (isRetry : Bool) :
    (s.startAttempt isRetry).call = s.call ∧ (s.startAttempt isRetry).rxbuf = s.rxbuf := by
  rw [startAttempt_eq]
  split <;> exact ⟨rfl, rfl⟩

/-- A received byte goes to `RXBUF`, whatever becomes of the frame. -/
theorem storeByte_call (s : State) (c : Byte) : (s.storeByte c).call = s.call := by
  unfold State.storeByte
  split
  · unfold State.endAscii
    split <;> rfl
  · rcases endBinary_cases (s.keepByte c) with g | ⟨g, -⟩ | ⟨g, -⟩ <;> rw [g, noteSize_eq] <;> rfl

/-- No move of the engine touches the call, and storing a received byte is the only one that touches `RXBUF` (R82, R266). -/
theorem State.EngineMove.call_eq {q : FsmState} (h : a.EngineMove q u) :
    u.call = a.call ∧ (q ≠ .awaitingResponse → u.rxbuf = a.rxbuf) := by
  cases h with
  | store c => exact ⟨storeByte_call a c, fun hq => absurd rfl hq⟩
  | again =>
    obtain ⟨hcall, hrx⟩ := startAttempt_call { a with retryCnt := a.retryCnt + 1 } true
    exact ⟨hcall, fun _ => hrx⟩
  | stay | abort | fail | endBreak | endMarking | send | await | succeed | giveUp => exact ⟨rfl, fun _ => rfl⟩

/-- A busy step leaves the call: its host phase is refused or reads (R292), and its engine phase is a move. -/
theorem step_call_busy (h : step s = .next t) (hr : t.cur.rst = false) (hb : s.busy = true) :
    t.call = s.call ∧ (s.state ≠ .awaitingResponse → t.rxbuf = s.rxbuf) := by
  obtain ⟨a, u, ha, hmove, -, rfl, -⟩ := step_moves h hr
  obtain ⟨inputs, envIdx, cur, hlatch⟩ := latch_record s
  have hbl : s.latch.busy = true := by rw [hlatch]; exact hb
  rw [hostPhase_busy hbl, hlatch] at ha
  cases ha
  exact hmove.call_eq

/-- Settles O43, register by register from `step_call_busy`. -/
theorem busyKeepsTheCall : Obligations.BusyKeepsTheCall := by
  intro s t ht hr hb
  obtain ⟨hcall, hrx⟩ := step_call_busy ht hr hb
  simp only [State.call, Prod.mk.injEq] at hcall
  obtain ⟨h0, h1, hcfg, hovr, htc, hrc, hlo, hhi, hval, htxt, hstart, hend, hctl, hparams, hlen, hfmt, htx, hxb⟩ := hcall
  exact ⟨h0, h1, hcfg, hovr, htc, hrc, hlo, hhi, hval, htxt, hstart, hend, hctl, hparams, hlen, hfmt, htx, hxb, hrx⟩

end Sys2Proof.Machine

/-! # Characters, the attributes of a descriptor, and the operations with no operand (R103, R106, R111 to R113, R128, R176, R262,
R293): O6, O8, O12, O23, O25 -/

namespace Sys2Proof.Machine

/-! ## The operations -/

/-- Settles O23: `exec_carried` is what makes the two ways to run a command agree. -/
theorem commandIsItsTransact : Obligations.CommandIsItsTransact := fun _ _ h => exec_carried h

theorem execNop_quiescent {s : State} (hb : s.busy = false) : exec .nop s = .next (s.finished .noError) := accept_quiescent hb _

theorem reservedOperation_quiescent {s : State} (hb : s.busy = false) :
    reservedOperation s = .next (s.finished .illegalEncoding) := accept_quiescent hb _

/-- Settles O25: each of the seven codes runs `reservedOperation`. -/
theorem nopAndReservedCodes : Obligations.NopAndReservedCodes := by
  refine fun s hb => ⟨execNop_quiescent hb, ?_⟩
  simp only [List.forall_mem_cons, List.not_mem_nil, false_imp_iff, implies_true, and_true]
  and_intros <;> exact reservedOperation_quiescent hb

/-! ## Characters -/

theorem isSensorAddr_iff_ranges {c : Byte} :
    isSensorAddr c = true ↔
      (0x30#8 ≤ c ∧ c ≤ 0x39#8) ∨ (0x61#8 ≤ c ∧ c ≤ 0x7A#8) ∨ (0x41#8 ≤ c ∧ c ≤ 0x5A#8) := by
  simp only [isSensorAddr, Bool.or_eq_true, Bool.and_eq_true, decide_eq_true_eq, or_assoc]
  rw [or_comm (b := 0x61#8 ≤ c ∧ c ≤ 0x7A#8)]

theorem isAddr_iff_sensor_or_query {c : Byte} : isAddr c = true ↔ isSensorAddr c = true ∨ c = Ascii.query := by
  rw [isAddr, Bool.or_eq_true, beq_iff_eq]

/-- Settles O6: the ranges from the definitions, the two numbers by counting the 256 bytes. -/
theorem addressAlphabet : Obligations.AddressAlphabet :=
  ⟨fun _ => isSensorAddr_iff_ranges, fun _ => isAddr_iff_sensor_or_query, by decide, by decide⟩

/-- Seven bits and their even-parity bit have even parity together (R9, R103). -/
theorem parity7_xor_bit7 (lb : Byte) : (parity7 lb ^^ lb.getLsbD 7) = lb.cpop.getLsbD 0 := by
  revert lb; decide

theorem and_0x7F_eq_low_bits (lb : Byte) : lb &&& 0x7F#8 = (lb.extractLsb' 0 7).setWidth 8 := by
  revert lb; decide

theorem charOf_ascii7E1 (lb : Byte) :
    charOf .ascii7E1 lb = if lb.cpop.getLsbD 0 = true then none else some ((lb.extractLsb' 0 7).setWidth 8) := by
  rw [charOf, parity7_xor_bit7, and_0x7F_eq_low_bits]

theorem charOf_lineByte_ascii7E1 {c : Byte} (h : c < 0x80#8) : charOf .ascii7E1 (lineByte .ascii7E1 c) = some c := by
  revert c; decide

/-- A line byte with a parity error ends the attempt, and nothing is stored (R265, R306). -/
theorem receive_parityError {s : State} {lb : Byte} (hrx : s.cur.rx = .byte lb) (herr : charOf s.framing lb = none) :
    s.receive = .next (s.attemptFail .transport paritySub) := by
  simp only [State.receive, hrx, herr]

/-- Settles O8: the two formats apart, and the parity error by `receive_parityError`. -/
theorem parityRoundTrip : Obligations.ParityRoundTrip :=
  ⟨charOf_ascii7E1, fun _ => rfl, fun _ => charOf_lineByte_ascii7E1, fun _ => rfl, fun _ _ => receive_parityError⟩

/-! ## What a descriptor stands for -/

theorem eq_ack_iff_code {k : Kind} : k = .ack ↔ k.code = 0x00#8 := by
  cases k <;> decide

theorem eq_chaddr_iff_code {k : Kind} : k = .chaddr ↔ k.code = 0x02#8 := by
  cases k <;> decide

theorem startsMeasurement_iff_code {k : Kind} :
    startsMeasurement k = true ↔ k.code ∈ [0x03#8, 0x04#8, 0x05#8, 0x06#8, 0x07#8, 0x0B#8, 0x0C#8] := by
  cases k <;> decide

theorem crcMode_eq (d : Descriptor) :
    crcMode d =
      if d.kind = 0x0D#8 then .binary
      else if (d.kind = 0x09#8 ∧ d.metaForm = 0) ∨ (d.crcExpect = true ∧ (d.kind = 0x0A#8 ∨ d.kind = 0x0E#8 ∨ d.metaForm = 2)) then
        .ascii
      else .none := by
  unfold crcMode
  rw [ite_or]
  rfl

theorem addrOk_iff (d : Descriptor) (c : Byte) :
    addrOk d c = true ↔
      if d.kind = 0x02#8 then c = d.newAddr else if d.addr = 0x3F#8 then isSensorAddr c = true else c = d.addr := by
  simp only [addrOk, Bool.ite_eq_true_distrib, beq_iff_eq]
  rfl

/-- The deadline class over the numeric codes (R262). -/
theorem deadlineClass_eq {d : Descriptor} {k : Kind} (hk : Kind.ofCode d.kind = some k) :
    deadlineClass d =
      if d.metaForm = 0 ∧ (d.kind = 0x00#8 ∨ d.kind = 0x02#8) then .expedited
      else if (d.metaForm = 0 ∨ d.metaForm = 1) ∧ d.kind ∈ [0x03#8, 0x04#8, 0x05#8, 0x06#8, 0x07#8, 0x0B#8, 0x0C#8] then
        .measurement
      else .standard := by
  simp only [deadlineClass, hk, eq_ack_iff_code, eq_chaddr_iff_code, startsMeasurement_iff_code, ← ofCode_eq_some hk]

theorem tResp_eq {d : Descriptor} {k : Kind} (hk : Kind.ofCode d.kind = some k) (p : Params) (tOvr : Word) :
    tResp p tOvr d =
      if tOvr ≠ 0 then tOvr.toNat
      else if d.metaForm = 0 ∧ (d.kind = 0x00#8 ∨ d.kind = 0x02#8) then p.tRespExpedited
      else if (d.metaForm = 0 ∨ d.metaForm = 1) ∧ d.kind ∈ [0x03#8, 0x04#8, 0x05#8, 0x06#8, 0x07#8, 0x0B#8, 0x0C#8] then
        p.tRespMeasurement
      else p.tRespStandard := by
  rw [tResp, deadlineClass_eq hk, ite_not, apply_ite (DeadlineClass.ticks · p), apply_ite (DeadlineClass.ticks · p)]
  rfl

/-- Settles O12: one equation for each attribute; only the deadline class reads the kind itself. -/
theorem descriptorAttributes : Obligations.DescriptorAttributes := by
  intro d hlegal
  obtain ⟨k, hk⟩ := Option.ne_none_iff_exists'.1 hlegal
  exact ⟨rfl, crcMode_eq d, addrOk_iff d, tResp_eq hk⟩

end Sys2Proof.Machine

/-! # The construction check accepts the well-formed commands that fit (R106, R108, R121 to R123, R126, R172, R175): O4 -/

namespace Sys2Proof.Machine

/-! ## The checks of the operands that are spelled by digits -/

/-- What a check of an index does with what follows it: it passes exactly the index that is well formed, and hands on its digits. -/
def PassesDigits (wf : Bool) (digits : List Byte) (check : (List Byte → Except ErrKind (List Byte)) → Except ErrKind (List Byte)) :
    Prop :=
  ∀ f w, check f = .ok w ↔ wf = true ∧ f digits = .ok w

/-- A check that passes every well-formed index, and no other. -/
theorem PassesDigits.of_ok {α : Type} {wf : Bool} {digits : List Byte} {text : α → List Byte}
    {check : (α → Except ErrKind (List Byte)) → Except ErrKind (List Byte)}
    (hpass : wf = true → ∃ m, digits = text m ∧ ∀ k, check k = k m) (hwf : ∀ k w, check k = .ok w → wf = true) :
    PassesDigits wf digits fun f => check fun m => f (text m) := by
  intro f w
  by_cases h : wf = true
  · obtain ⟨m, htext, hcheck⟩ := hpass h
    simp only [hcheck, htext, h, true_and]
  · exact iff_of_false (fun hok => h (hwf _ _ hok)) fun hand => h hand.1

theorem wfSet_of_ok {n : BitVec 10} {k : SetIndex → Except ErrKind (List Byte)} {w : List Byte}
    (h : withSetDigit n k = .ok w) : wfSet n = true := by
  obtain ⟨hne, m, hm, -⟩ := withSetDigit_ok.1 h
  have hlt : n.toNat < 10 := setIndex_ofField.1 hm ▸ m.value.isLt
  have hpos : n.toNat ≠ 0 := fun h0 => hne (BitVec.eq_of_toNat_eq h0)
  simp only [wfSet, Bool.and_eq_true, decide_eq_true_eq]
  omega

theorem wfCont_of_ok {n : BitVec 10} {k : ContIndex → Except ErrKind (List Byte)} {w : List Byte}
    (h : withContDigit n k = .ok w) : wfCont n = true := by
  obtain ⟨m, hm, -⟩ := withContDigit_ok.1 h
  have hlt : n.toNat < 10 := contIndex_ofField.1 hm ▸ m.value.isLt
  exact decide_eq_true (Nat.le_of_lt_succ hlt)

theorem wfData_of_ok {n : BitVec 10} {k : DataIndex → Except ErrKind (List Byte)} {w : List Byte}
    (h : withDataIndex n k = .ok w) : wfData n = true := by
  obtain ⟨m, hm, -⟩ := withDataIndex_ok.1 h
  have hlt : n.toNat < 1000 := dataIndex_ofField.1 hm ▸ m.value.isLt
  exact decide_eq_true (Nat.le_of_lt_succ hlt)

theorem wfParam_of_ok {p : BitVec 10} {k : ParamNumber → Except ErrKind (List Byte)} {w : List Byte}
    (h : withParam p k = .ok w) : wfParam p = true := by
  obtain ⟨m, hm, -⟩ := withParam_ok.1 h
  have hlt : p.toNat < 1000 := paramNumber_ofField.1 hm ▸ m.value.isLt
  have hpos : p.toNat ≠ 0 := paramNumber_ofField.1 hm ▸ fun h0 => m.positive (Fin.ext h0)
  simp only [wfParam, Bool.and_eq_true, decide_eq_true_eq]
  omega

theorem passes_setDigit (n : BitVec 10) : PassesDigits (wfSet n) (setText n) fun f => withSetDigit n fun m => f m.text :=
  .of_ok withSetDigit_of_wf fun _ _ => wfSet_of_ok

theorem passes_contDigit (n : BitVec 10) : PassesDigits (wfCont n) (contText n) fun f => withContDigit n fun m => f m.text :=
  .of_ok withContDigit_of_wf fun _ _ => wfCont_of_ok

theorem passes_dataIndex (n : BitVec 10) : PassesDigits (wfData n) (dataText n) fun f => withDataIndex n fun m => f m.text :=
  .of_ok withDataIndex_of_wf fun _ _ => wfData_of_ok

theorem passes_param (p : BitVec 10) : PassesDigits (wfParam p) (paramText p) fun f => withParam p fun m => f m.text :=
  .of_ok withParam_of_wf fun _ _ => wfParam_of_ok

/-! ## The check of a command by the shape of its operands -/

/-- The construction check `r`, where `XBUF` holds `size` bytes, accepts the command `i` exactly when it is well formed and
its body fits, and then gives its wire string. -/
def ChecksFor (size : Nat) (i : Instr) (r : Except ErrKind (List Byte)) : Prop :=
  ∀ w, r = .ok w ↔ i.WellFormed ∧ (extendedBody i).length ≤ size ∧ encode i = w

section
variable {size : Nat} {i : Instr} {r : Except ErrKind (List Byte)} {a : Byte} {p t t' : List Byte} {b b' : Bool}
  {c c' : (List Byte → Except ErrKind (List Byte)) → Except ErrKind (List Byte)}

/-- Without a body there is nothing to fit. -/
theorem checksFor_iff (hbody : extendedBody i = []) : ChecksFor size i r ↔ ∀ w, r = .ok w ↔ i.wf = true ∧ encode i = w := by
  simp only [ChecksFor, hbody, List.length_nil, Nat.zero_le, true_and]

theorem checksFor_bare (hbody : extendedBody i = []) (hw : i.wf = isSensorAddr a) :
    ChecksFor size i (withAddr a (.ok (encode i))) := by
  rw [checksFor_iff hbody]
  intro w
  rw [withAddr_ok, Except.ok.injEq, hw]

/-- A command with one number. -/
theorem checksFor_digits (hc : PassesDigits b t c) (hbody : extendedBody i = []) (hw : i.wf = (isSensorAddr a && b))
    (henc : encode i = p ++ t ++ [Ascii.bang]) (hr : r = withAddr a (c fun x => .ok (p ++ x ++ [Ascii.bang]))) :
    ChecksFor size i r := by
  rw [checksFor_iff hbody]
  intro w
  rw [hr, withAddr_ok, hc, Except.ok.injEq, hw, henc, Bool.and_eq_true, and_assoc]

/-- A command with a digit and a parameter number. -/
theorem checksFor_digitsParam (hc : PassesDigits b t c) (hc' : PassesDigits b' t' c') (hbody : extendedBody i = [])
    (hw : i.wf = (isSensorAddr a && b && b')) (henc : encode i = p ++ t ++ [Ascii.underscore] ++ t' ++ [Ascii.bang])
    (hr : r = withAddr a (c fun x => c' fun y => .ok (p ++ x ++ [Ascii.underscore] ++ y ++ [Ascii.bang]))) :
    ChecksFor size i r := by
  rw [checksFor_iff hbody]
  intro w
  rw [hr, withAddr_ok, hc, hc', Except.ok.injEq, hw, henc, Bool.and_eq_true, Bool.and_eq_true, and_assoc, and_assoc]

theorem checksFor_chaddr (a b : Byte) :
    ChecksFor size (.chaddr a b) (withAddr a (withAddr b (.ok [a, Ascii.A, b, Ascii.bang]))) := by
  rw [checksFor_iff rfl]
  intro w
  rw [withAddr_ok, withAddr_ok, Except.ok.injEq, Instr.wf, Bool.and_eq_true, and_assoc, encode]

/-- `XLEN` has eight bits, so the body it counts is never too long for the field (R120). -/
theorem checksFor_x {body : List Byte} (hlen : body.length ≤ 255) (a : Byte) (crc : Bool) :
    ChecksFor size (.x a body crc) (withAddr a (withBody size body (.ok ([a] ++ body ++ [Ascii.bang])))) := by
  intro w
  have hwf : (Instr.x a body crc).WellFormed ↔ isSensorAddr a = true ∧ body.all isBodyByte = true := by
    rw [Instr.WellFormed, Instr.wf, wfBody, decide_eq_true hlen, Bool.true_and, Bool.and_eq_true]
  rw [withAddr_ok, withBody_ok, Except.ok.injEq, hwf, extendedBody, encode, and_comm (a := body.length ≤ size), and_assoc, and_assoc]
  rfl

theorem checksFor_ack (a : Byte) :
    ChecksFor size (if a = Ascii.query then .query else .ack a)
      (if a = Ascii.query then .ok [Ascii.query, Ascii.bang] else withAddr a (.ok [a, Ascii.bang])) := by
  split
  · rw [checksFor_iff rfl]
    intro w
    rw [Except.ok.injEq, Instr.wf, encode, eq_self, true_and]
  · exact checksFor_bare (i := .ack a) rfl rfl

end

/-! ## The command a descriptor spells -/

section
variable {size : Nat} {d : Descriptor} {k : Kind} {body : List Byte} {i : Instr}

theorem checksFor_decodePlain (hk : Kind.ofCode d.kind = some k) (hm : d.metaForm = 0) (hlen : body.length = d.xlen.toNat) :
    ChecksFor size (decodePlain k d body) (checkedWire size d body) := by
  have hform : hasForm k d.metaForm := by simp [hasForm, hm]
  have hle := d.xlen.isLt
  cases k
  case ack => rw [checkedWire_ack hk hm]; exact checksFor_ack d.addr
  case chaddr => rw [checkedWire_sensor hk hform (by simp), checkedFields_chaddr hm]; exact checksFor_chaddr _ _
  case x => rw [checkedWire_sensor hk hform (by simp), checkedFields_x hm hlen]; exact checksFor_x (by omega) _ _
  all_goals
    rw [checkedWire_indexed hk hform (by simp) (by simp) (by simp), hm]
    simp only [Family.ofFields, form_command, withIndex_map, withIndex_some, withIndex_setIndex, decodePlain]
  case ident | v | ha | hb => exact checksFor_bare rfl rfl
  case r | rc => exact checksFor_digits (passes_contDigit _) rfl rfl rfl rfl
  case d | db => exact checksFor_digits (passes_dataIndex _) rfl rfl rfl rfl
  case m | mc | c | cc =>
    split
    · exact checksFor_bare rfl rfl
    · exact checksFor_digits (passes_setDigit _) rfl rfl rfl rfl

theorem checksFor_decodeIdentify (hk : Kind.ofCode d.kind = some k) (hm : d.metaForm = 1) (hi : decodeIdentify k d = .ok i) :
    ChecksFor size i (checkedWire size d body) := by
  have hform (h : hasIdentify k = true) : hasForm k d.metaForm := by simp [hasForm, hm, h]
  cases k
  all_goals simp only [decodeIdentify, reduceCtorEq] at hi
  all_goals
    rw [checkedWire_indexed hk (hform rfl) (by simp) (by simp) (by simp), hm]
    simp only [Family.ofFields, form_identify, withIndex_map, withIndex_some, withIndex_setIndex]
  case v | ha | hb => cases hi; exact checksFor_bare rfl rfl
  case m | mc | c | cc =>
    split at hi <;> cases hi <;> simp only [*, if_true, if_false]
    · exact checksFor_bare rfl rfl
    · exact checksFor_digits (passes_setDigit _) rfl rfl rfl rfl

theorem checksFor_decodeIdentifyParam (hk : Kind.ofCode d.kind = some k) (hm : d.metaForm = 2)
    (hi : decodeIdentifyParam k d = .ok i) : ChecksFor size i (checkedWire size d body) := by
  have hform (h : hasIdentifyParam k = true) : hasForm k d.metaForm := by simp [hasForm, hm, h]
  cases k
  all_goals simp only [decodeIdentifyParam, reduceCtorEq] at hi
  all_goals
    rw [checkedWire_indexed hk (hform rfl) (by simp) (by simp) (by simp), hm]
    simp only [Family.ofFields, form_identifyParam, withIndex_map, withIndex_some, withIndex_setIndex]
  case v | ha | hb => cases hi; exact checksFor_digits (passes_param _) rfl rfl rfl rfl
  case r | rc => cases hi; exact checksFor_digitsParam (passes_contDigit _) (passes_param _) rfl rfl rfl rfl
  case m | mc | c | cc =>
    split at hi <;> cases hi <;> simp only [*, if_true, if_false]
    · exact checksFor_digits (passes_param _) rfl rfl rfl rfl
    · exact checksFor_digitsParam (passes_setDigit _) (passes_param _) rfl rfl rfl rfl

theorem checksFor_decodeCommand (hlen : body.length = d.xlen.toNat) (hi : decodeCommand d body = .ok i) :
    ChecksFor size i (checkedWire size d body) := by
  unfold decodeCommand at hi
  cases hk : Kind.ofCode d.kind with
  | none => simp [hk] at hi
  | some k =>
    rw [hk] at hi
    rcases metaForm_cases d.metaForm with hm | hm | hm | hm <;> simp only [hm] at hi
    · cases hi; exact checksFor_decodePlain hk hm hlen
    · exact checksFor_decodeIdentify hk hm hi
    · exact checksFor_decodeIdentifyParam hk hm hi
    · cases hi

/-- A descriptor of a reserved kind or form is refused before anything else (R128, R175 step 2). -/
theorem hasForm_of_checkedWire_ok {w : List Byte} (h : checkedWire size d body = .ok w) :
    ∃ k, Kind.ofCode d.kind = some k ∧ hasForm k d.metaForm := by
  unfold checkedWire at h
  split at h
  next => cases h
  next k hk =>
    split at h
    next => cases h
    next h3 =>
      split at h
      next => cases h
      next h1 =>
        split at h
        next => cases h
        next h2 => exact ⟨k, hk, h3, fun hm => by simpa [hm] using h1, fun hm => by simpa [hm] using h2⟩

theorem decodeIdentify_of_hasIdentify (h : hasIdentify k = true) (d : Descriptor) : ∃ i, decodeIdentify k d = .ok i := by
  cases k
  case v | ha | hb => exact ⟨_, rfl⟩
  case m | mc | c | cc =>
    by_cases h0 : d.idx = 0
    · exact ⟨_, if_pos h0⟩
    · exact ⟨_, if_neg h0⟩
  all_goals cases h

theorem decodeIdentifyParam_of_hasIdentifyParam (h : hasIdentifyParam k = true) (d : Descriptor) :
    ∃ i, decodeIdentifyParam k d = .ok i := by
  cases k
  case v | r | rc | ha | hb => exact ⟨_, rfl⟩
  case m | mc | c | cc =>
    by_cases h0 : d.idx = 0
    · exact ⟨_, if_pos h0⟩
    · exact ⟨_, if_neg h0⟩
  all_goals cases h

/-- A descriptor of a legal kind and form spells a command (R126). -/
theorem decodeCommand_of_hasForm (hk : Kind.ofCode d.kind = some k) (hform : hasForm k d.metaForm) (body : List Byte) :
    ∃ i, decodeCommand d body = .ok i := by
  obtain ⟨h3, h1, h2⟩ := hform
  unfold decodeCommand
  rw [hk]
  rcases metaForm_cases d.metaForm with hm | hm | hm | hm
  · exact ⟨decodePlain k d body, by rw [hm]; rfl⟩
  · rw [hm]; exact decodeIdentify_of_hasIdentify (h1 hm) d
  · rw [hm]; exact decodeIdentifyParam_of_hasIdentifyParam (h2 hm) d
  · exact absurd hm h3

end

/-- Settles O4: an accepted descriptor spells a command, and the check of a command accepts just the well-formed one that fits. -/
theorem checkAcceptsWellFormed : Obligations.CheckAcceptsWellFormed := by
  intro size d body w hlen
  constructor
  · intro hok
    obtain ⟨k, hk, hform⟩ := hasForm_of_checkedWire_ok hok
    obtain ⟨i, hi⟩ := decodeCommand_of_hasForm hk hform body
    exact ⟨i, hi, (checksFor_decodeCommand hlen hi w).1 hok⟩
  · rintro ⟨i, hi, hspelled⟩
    exact (checksFor_decodeCommand hlen hi w).2 hspelled

end Sys2Proof.Machine

/-! # A well-formed command that fits is sent, and an attempt starts (R108, R226, R241, R293, R294, R297, R300): O15, O16, O17, O19 -/

namespace Sys2Proof.Machine

/-! ## A transaction that starts -/

section
variable {s : State} {fmt : Framing} {built : Except ErrKind (List Byte)} {w : List Byte}

/-- Starting an attempt leaves the buffers. -/
theorem startAttempt_buffers (s : State) (isRetry : Bool) :
    (s.startAttempt isRetry).txbuf = s.txbuf ∧ (s.startAttempt isRetry).rxbuf = s.rxbuf ∧
      (s.startAttempt isRetry).xbuf = s.xbuf := by
  rw [startAttempt_eq]
  split <;> exact ⟨rfl, rfl, rfl⟩

/-- What the first attempt at a command leaves, `r` being the state the command is formatted into (R226, R294, R300). -/
theorem started_of_cleared {r : State}
    (hr : r = { s.accepted with
      retryCnt := 0, rxLen := 0, rxNeed := 0, payStart := 0, payEnd := 0, crcPresent := false, fmt := fmt }) :
    s.Started ((r.formatInto w).startAttempt false) fmt w := by
  have hbuf := startAttempt_buffers (r.formatInto w) false
  have hread (sp : Space) (i : Nat) : r.read sp i = s.read sp i := read_congr (by rw [hr]; exact ⟨rfl, rfl, rfl⟩) sp i
  have hneed : (r.formatInto w).needBreak false = s.needBreak false := by
    rw [formatInto_eq, hr]
    exact needBreak_congr false ⟨rfl, rfl, rfl, rfl, rfl, rfl, rfl, rfl⟩
  constructor
  case sent => rw [readBytes_congr hbuf, formatInto_readBytes]
  case untouched =>
    intro sp i hout
    rw [read_congr hbuf, formatInto_read, if_neg fun hin => hout.elim (· hin.1) (Nat.not_le.2 hin.2), hread]
  case registers =>
    rw [startAttempt_eq, hneed, formatInto_eq, hr]
    cases s.needBreak false <;> rfl

/-- A `TRANSACT` whose construction check passes sends the wire string and starts an attempt (R294). -/
theorem issue_started (hb : s.busy = false) (hc : s.construct true built = .ok w) :
    ∃ t, issue s fmt built = .next t ∧ s.Started t fmt w := by
  rw [issue, accept_quiescent hb, beginTransaction_ok (s := s.accepted) hc]
  exact ⟨_, rfl, started_of_cleared rfl⟩

theorem construct_of_admits (h : s.Admits w.length) : s.construct true (.ok w) = .ok w := by
  obtain ⟨-, htx, hrx0, hrx, hlen⟩ := h
  exact construct_ok.2 ⟨htx, fun _ => ⟨hrx0, hrx⟩, rfl, hlen⟩

end

/-! ## A command that starts -/

section
variable {s : State} {i : Instr} {d : Descriptor} {fmt : Framing} {w : List Byte}

/-- `XLEN` counts the body of a well-formed command (R120). -/
theorem extendedBody_length (hd : encodeCommand i = some d) (hw : i.WellFormed) :
    (extendedBody i).length = d.xlen.toNat := by
  cases i
  case x a body crc =>
    cases hd
    have hle : body.length ≤ 255 := of_decide_eq_true (Bool.and_eq_true_iff.1 (Bool.and_eq_true_iff.1 hw).2).1
    exact (Nat.mod_eq_of_lt (Nat.lt_succ_of_le hle)).symm
  all_goals cases hd <;> rfl

/-- A well-formed command that fits sends its wire string (R123, R175, R294). -/
theorem transacts_wellFormed (hd : encodeCommand i = some d) (hw : i.WellFormed)
    (hfit : (extendedBody i).length ≤ s.params.xbufSize) (hadm : s.Admits (encode i).length) :
    Transacts i s (respFmt d) (encode i) := by
  have hlen := extendedBody_length hd hw
  have hi := decodeCommand_encodeCommand hw hd
  have hcheck : checkedWire s.params.xbufSize d (extendedBody i) = .ok (encode i) :=
    (checksFor_decodeCommand hlen hi _).2 ⟨hw, hfit, rfl⟩
  unfold Transacts
  rw [exec_decodeCommand hlen hi, hcheck]
  exact issue_started hadm.1 (construct_of_admits hadm)

/-- The same for a command without a body, its wire string `w` written out. -/
theorem transacts_of_encode {n : Nat} (hd : encodeCommand i = some d) (hw : i.WellFormed) (hbody : extendedBody i = [])
    (hfmt : respFmt d = fmt) (henc : encode i = w) (hlen : w.length = n) : s.Admits n → Transacts i s fmt w := by
  subst hfmt henc hlen
  exact transacts_wellFormed hd hw (by rw [hbody]; exact Nat.zero_le _)

end

/-! ## The digits written out -/

theorem setText_eq {n : BitVec 10} (h1 : 1 ≤ n.toNat) (h9 : n.toNat ≤ 9) : setText n = [0x30#8 + n.setWidth 8] := by
  have hne : n ≠ 0 := by rintro rfl; exact absurd h1 (by decide)
  have hfield : SetIndex.ofField n = some ⟨⟨n.toNat, by omega⟩⟩ := setIndex_ofField.2 rfl
  rw [setText, hfield, spelled, setIndex_text_eq rfl, if_neg hne]

theorem contText_eq {n : BitVec 10} (h9 : n.toNat ≤ 9) : contText n = [0x30#8 + n.setWidth 8] := by
  have hfield : ContIndex.ofField n = some ⟨⟨n.toNat, by omega⟩⟩ := contIndex_ofField.2 rfl
  rw [contText, hfield, spelled, ContIndex.text, digit_eq_field rfl]

theorem dataText_eq {n : BitVec 10} (h : n.toNat < 1000) : dataText n = dec ⟨n.toNat, h⟩ := by
  have hfield : DataIndex.ofField n = some ⟨⟨n.toNat, h⟩⟩ := dataIndex_ofField.2 rfl
  rw [dataText, hfield, spelled, DataIndex.text]

theorem paramText_eq {p : BitVec 10} (h1 : 1 ≤ p.toNat) (h : p.toNat < 1000) : paramText p = ddd ⟨p.toNat, h⟩ := by
  have hne : (⟨p.toNat, h⟩ : Fin 1000) ≠ 0 := fun h0 => absurd (congrArg Fin.val h0) (by simp; omega)
  have hfield : ParamNumber.ofField p = some ⟨⟨p.toNat, h⟩, hne⟩ := paramNumber_ofField.2 rfl
  rw [paramText, hfield, spelled, ParamNumber.text]

theorem wfSet_iff {n : BitVec 10} : wfSet n = true ↔ 1 ≤ n.toNat ∧ n.toNat ≤ 9 := by
  rw [wfSet, Bool.and_eq_true, decide_eq_true_eq, decide_eq_true_eq]

theorem wfParam_iff {p : BitVec 10} : wfParam p = true ↔ 1 ≤ p.toNat ∧ p.toNat ≤ 999 := by
  rw [wfParam, Bool.and_eq_true, decide_eq_true_eq, decide_eq_true_eq]

/-! ## The commands -/

/-- Settles O15: each is a well-formed command whose wire string is its encoding. -/
theorem measurementSetsStart : Obligations.MeasurementSetsStart := by
  intro s a n ha h1 h9
  have hw : (isSensorAddr a && wfSet n) = true := Bool.and_eq_true_iff.2 ⟨ha, wfSet_iff.2 ⟨h1, h9⟩⟩
  have htext := setText_eq h1 h9
  refine ⟨?_, ?_, ?_, ?_⟩
  all_goals exact transacts_of_encode rfl hw rfl rfl (by rw [encode, htext]; rfl) rfl

/-- Settles O16, as O15 with a digit that may be 0. -/
theorem continuousCommandsStart : Obligations.ContinuousCommandsStart := by
  intro s a n ha h9
  have hw : (isSensorAddr a && wfCont n) = true := Bool.and_eq_true_iff.2 ⟨ha, decide_eq_true h9⟩
  have htext := contText_eq h9
  constructor
  all_goals exact transacts_of_encode rfl hw rfl rfl (by rw [encode, htext]; rfl) rfl

/-- Settles O17, as O15 with one to three digits; `respFmt` tells `DBn` from `Dn`. -/
theorem dataCommandsStart : Obligations.DataCommandsStart := by
  intro s a n crc h ha
  have hw : (isSensorAddr a && wfData n) = true := Bool.and_eq_true_iff.2 ⟨ha, decide_eq_true (Nat.le_of_lt_succ h)⟩
  have htext := dataText_eq h
  constructor
  all_goals exact transacts_of_encode rfl hw rfl rfl (by rw [encode, htext]) (by simp; omega)

/-- Settles O19: seven commands without a digit, two with a digit that may be 0, four with one that may not. -/
theorem parameterCommandsStart : Obligations.ParameterCommandsStart := by
  intro s a p crc h ha h1 ppp
  have hp : wfParam p = true := wfParam_iff.2 ⟨h1, Nat.le_of_lt_succ h⟩
  have hw : (isSensorAddr a && wfParam p) = true := Bool.and_eq_true_iff.2 ⟨ha, hp⟩
  have hptext := paramText_eq h1 h
  refine ⟨?_, ?_, ?_, ?_, ?_, ?_, ?_, fun n h9 => ⟨?_, ?_, fun hn1 => ?_⟩⟩
  case refine_8 | refine_9 =>
    have hwc : (isSensorAddr a && wfCont n && wfParam p) = true :=
      Bool.and_eq_true_iff.2 ⟨Bool.and_eq_true_iff.2 ⟨ha, decide_eq_true h9⟩, hp⟩
    exact transacts_of_encode rfl hwc rfl rfl (by rw [encode, contText_eq h9, hptext]; rfl) rfl
  case refine_10 =>
    have hws : (isSensorAddr a && wfSet n && wfParam p) = true :=
      Bool.and_eq_true_iff.2 ⟨Bool.and_eq_true_iff.2 ⟨ha, wfSet_iff.2 ⟨hn1, h9⟩⟩, hp⟩
    refine ⟨?_, ?_, ?_, ?_⟩
    all_goals exact transacts_of_encode rfl hws rfl rfl (by rw [encode, setText_eq hn1 h9, hptext]; rfl) rfl
  all_goals exact transacts_of_encode rfl hw rfl rfl (by rw [encode, hptext]; rfl) rfl

end Sys2Proof.Machine

/-! # The shape of a command on the wire (R105, R228 (c) and (d)): O5 -/

namespace Sys2Proof.Machine

/-! ## The bytes between the address and the `!` -/

/-- A byte that may stand before the final `!`: seven bits, and no `!` itself (R105, R228). -/
abbrev IsPlain (b : Byte) : Prop := b ≠ Ascii.bang ∧ b < 0x80#8

theorem isPlain_of_isAddr {c : Byte} (h : isAddr c = true) : IsPlain c := by
  revert c; decide

theorem isPlain_of_isBodyByte {c : Byte} (h : isBodyByte c = true) : IsPlain c := by
  revert c; decide

theorem isPlain_digit (n : Fin 10) : IsPlain (digit n) := by
  revert n; decide

theorem isPlain_digitAt (n : Fin 1000) (k : Nat) : IsPlain (digitAt n k) := isPlain_digit _

/-- What an index or a parameter number looks like on the wire: at most `n` digits. -/
abbrev IsDigits (n : Nat) (t : List Byte) : Prop := (∀ b ∈ t, IsPlain b) ∧ t.length ≤ n

theorem setIndex_isDigits (n : SetIndex) : IsDigits 1 n.text := by
  unfold SetIndex.text
  split
  · exact ⟨List.forall_mem_nil _, Nat.zero_le 1⟩
  · exact ⟨List.forall_mem_singleton.2 (isPlain_digit _), Nat.le_refl 1⟩

theorem contIndex_isDigits (n : ContIndex) : IsDigits 1 n.text :=
  ⟨List.forall_mem_singleton.2 (isPlain_digit _), Nat.le_refl 1⟩

theorem ddd_isDigits (n : Fin 1000) : IsDigits 3 (ddd n) :=
  ⟨List.forall_mem_cons.2 ⟨isPlain_digitAt n 2, List.forall_mem_cons.2 ⟨isPlain_digitAt n 1,
    List.forall_mem_singleton.2 (isPlain_digitAt n 0)⟩⟩, Nat.le_refl 3⟩

/-- A spelling without leading zeros is an end of the one with three digits. -/
theorem dec_isDigits (n : Fin 1000) : IsDigits 3 (dec n) := by
  obtain ⟨hplain, hlen⟩ := ddd_isDigits n
  have hdrop (k : Nat) : IsDigits 3 ((ddd n).drop k) :=
    ⟨fun b hb => hplain b (List.mem_of_mem_drop hb), by rw [List.length_drop]; omega⟩
  rw [dec_eq_drop_ddd]
  split
  · exact hdrop 0
  split
  · exact hdrop 1
  · exact hdrop 2

/-- The kind of a family. -/
def Family.kind (f : Family) : Kind :=
  match f with
  | .ack => .ack
  | .ident => .ident
  | .chaddr => .chaddr
  | .m _ => .m
  | .mc _ => .mc
  | .v => .v
  | .c _ => .c
  | .cc _ => .cc
  | .r _ => .r
  | .rc _ => .rc
  | .d _ => .d
  | .ha => .ha
  | .hb => .hb
  | .db _ => .db
  | .x => .x

theorem kind_of_ofFields {k : Kind} {idx : BitVec 10} {f : Family} (h : Family.ofFields k idx = some f) : f.kind = k := by
  cases k
  case ack | ident | chaddr | v | ha | hb | x => cases h; rfl
  all_goals
    obtain ⟨n, -, rfl⟩ := Option.map_eq_some_iff.1 h
    rfl

section
variable {f : Family} {form : Form} {newAddr : Byte} {body : List Byte} {size : Nat}

/-- The letters of a family are plain, and so is what it takes from the descriptor and from `XBUF`. -/
theorem wireBody_isPlain (hnew : f.kind = .chaddr → isSensorAddr newAddr = true)
    (hbody : f.kind = .x → body.all isBodyByte = true) : ∀ b ∈ wireBody f newAddr body, IsPlain b := by
  cases f
  case x => exact fun b hb => isPlain_of_isBodyByte (List.all_eq_true.1 (hbody rfl) b hb)
  case chaddr =>
    have hnewPlain : IsPlain newAddr := isPlain_of_isAddr (isSensorAddr_iff.1 (hnew rfl)).1
    exact List.forall_mem_cons.2 ⟨by decide, List.forall_mem_singleton.2 hnewPlain⟩
  case ack | ident | v | ha | hb => simp only [wireBody]; decide
  case m n | mc n | c n | cc n => exact List.forall_mem_append.2 ⟨by decide, (setIndex_isDigits n).1⟩
  case r n | rc n => exact List.forall_mem_append.2 ⟨by decide, (contIndex_isDigits n).1⟩
  case d n | db n => exact List.forall_mem_append.2 ⟨by decide, (dec_isDigits n.value).1⟩

theorem wireBody_x (hx : f.kind = .x) : wireBody f newAddr body = body := by
  cases f
  case x => rfl
  all_goals cases hx

/-- A command with an identify form has at most two letters and one digit. -/
theorem wireBody_length_le_of_identify (h : hasIdentifyParam f.kind = true) :
    (wireBody f newAddr body).length ≤ 3 := by
  cases f
  case m n | mc n | c n | cc n =>
    have hn := (setIndex_isDigits n).2
    simp only [wireBody, List.length_append, List.length_cons, List.length_nil]
    omega
  case r | rc | v | ha | hb => exact Nat.le_of_ble_eq_true rfl
  all_goals cases h

/-- No command but `X` has more than two letters and three digits. -/
theorem wireBody_length_le (hx : f.kind ≠ .x) : (wireBody f newAddr body).length ≤ 5 := by
  by_cases h : hasIdentifyParam f.kind = true
  · exact (wireBody_length_le_of_identify h).trans (by decide)
  · cases f
    case x => exact absurd rfl hx
    case d n | db n =>
      have hn : n.text.length ≤ 3 := (dec_isDigits n.value).2
      simp only [wireBody, List.length_append, List.length_cons, List.length_nil]
      omega
    case ack | ident | chaddr => exact Nat.le_of_ble_eq_true rfl
    all_goals exact absurd rfl h

/-- What a command's wire string holds between its address and its `!` (R121, R123). -/
def wireMiddle (newAddr : Byte) (f : Family) (form : Form) (body : List Byte) : List Byte :=
  match form with
  | .command => wireBody f newAddr body
  | .identify => Ascii.I :: wireBody f newAddr body
  | .identifyParam p => Ascii.I :: wireBody f newAddr body ++ Ascii.underscore :: p.text

theorem wire_eq (addr newAddr : Byte) (f : Family) (form : Form) (body : List Byte) :
    wire addr newAddr f form body = addr :: (wireMiddle newAddr f form body ++ [Ascii.bang]) := by
  cases form <;> simp [wire, wireMiddle]

theorem wireMiddle_isPlain (hbody : ∀ b ∈ wireBody f newAddr body, IsPlain b) :
    ∀ b ∈ wireMiddle newAddr f form body, IsPlain b := by
  have hI : ∀ b ∈ Ascii.I :: wireBody f newAddr body, IsPlain b := List.forall_mem_cons.2 ⟨by decide, hbody⟩
  cases form with
  | command => exact hbody
  | identify => exact hI
  | identifyParam p =>
    exact List.forall_mem_append.2 ⟨hI, List.forall_mem_cons.2 ⟨by decide, (ddd_isDigits p.value).1⟩⟩

/-- The kinds with a form of `META` = 1 are among those with a form of `META` = 2 (R122). -/
theorem hasIdentifyParam_of_hasIdentify {k : Kind} (h : hasIdentify k = true) : hasIdentifyParam k = true := by
  cases k
  case m | mc | v | c | cc | ha | hb => rfl
  all_goals cases h

/-- A form that is not the command itself is that of a kind with identify forms (R122). -/
theorem hasIdentifyParam_of_form {k : Kind} {m : BitVec 2} {param : BitVec 10} (hm : hasForm k m)
    (hform : Form.ofFields m param = some form) : form = .command ∨ hasIdentifyParam k = true := by
  obtain ⟨h3, h1, h2⟩ := hm
  rcases metaForm_cases m with rfl | rfl | rfl | rfl
  · cases hform; exact .inl rfl
  · exact .inr (hasIdentifyParam_of_hasIdentify (h1 rfl))
  · exact .inr (h2 rfl)
  · exact absurd rfl h3

theorem wireMiddle_length_le (hform : form = .command ∨ hasIdentifyParam f.kind = true) (hx : f.kind = .x → body.length ≤ size) :
    (wireMiddle newAddr f form body).length ≤ max 8 size := by
  by_cases hk : f.kind = .x
  · have hcommand : form = .command := hform.resolve_right (by rw [hk]; decide)
    rw [hcommand, wireMiddle, wireBody_x hk]
    exact (hx hk).trans (Nat.le_max_right ..)
  · refine Nat.le_trans ?_ (Nat.le_max_left ..)
    rcases hform with rfl | hparam
    · exact (wireBody_length_le hk).trans (by decide)
    · have hle := wireBody_length_le_of_identify (newAddr := newAddr) (body := body) hparam
      cases form with
      | command => exact hle.trans (by decide)
      | identify => simp only [wireMiddle, List.length_cons]; omega
      | identifyParam p =>
        have hp : p.text.length ≤ 3 := (ddd_isDigits p.value).2
        simp only [wireMiddle, List.length_append, List.length_cons]
        omega

end

/-! ## An accepted descriptor -/

/-- The fields that pass their checks, and the wire string made of them (R175 steps 5 to 7). -/
theorem checkedFields_ok {size : Nat} {d : Descriptor} {k : Kind} {body w : List Byte}
    (h : checkedFields size d k body = .ok w) :
    ∃ f form, f.kind = k ∧ Form.ofFields d.metaForm d.param = some form ∧
      (k = .x → d.xlen.toNat ≤ size ∧ body.all isBodyByte = true) ∧ w = wire d.addr d.newAddr f form body := by
  unfold checkedFields at h
  split at h
  next => cases h
  next =>
    obtain ⟨f, hf, h⟩ := withIndex_ok.1 h
    obtain ⟨form, hform, h⟩ := withIndex_ok.1 h
    split at h
    next => cases h
    next hlen =>
      split at h
      next => cases h
      next hbody =>
        cases h
        exact ⟨f, form, kind_of_ofFields hf, hform, fun hx => ⟨by simpa [hx] using hlen, by simpa [hx] using hbody⟩, rfl⟩

/-- An address, plain bytes and a `!` make a frame (R105). -/
theorem frame_shape {a : Byte} {mid : List Byte} (ha : IsPlain a) (hmid : ∀ b ∈ mid, IsPlain b) :
    (a :: (mid ++ [Ascii.bang])).getLast? = some Ascii.bang ∧ Ascii.bang ∉ (a :: (mid ++ [Ascii.bang])).dropLast ∧
      ∀ b ∈ a :: (mid ++ [Ascii.bang]), b < 0x80#8 := by
  have hplain : ∀ b ∈ a :: mid, IsPlain b := List.forall_mem_cons.2 ⟨ha, hmid⟩
  rw [← List.cons_append, List.getLast?_concat, List.dropLast_concat]
  refine ⟨rfl, fun hbang => (hplain _ hbang).1 rfl, List.forall_mem_append.2 ⟨fun b hb => (hplain b hb).2, by decide⟩⟩

/-- Settles O5: the wire string is the address, plain bytes and the `!`. -/
theorem commandFrameShape : Obligations.CommandFrameShape := by
  intro size d body w hlen hok
  obtain ⟨k, hk, hmeta⟩ := hasForm_of_checkedWire_ok hok
  obtain ⟨haddr, hnew⟩ := checkedWire_addresses hok
  obtain ⟨k', hk', -, hfields⟩ := checkedWire_ok hok
  obtain rfl : k = k' := Option.some_inj.1 (hk.symm.trans hk')
  obtain ⟨f, form, rfl, hform, hx, rfl⟩ := checkedFields_ok hfields
  have hmid := wireMiddle_isPlain (form := form) (wireBody_isPlain (fun hc => hnew (hc ▸ ofCode_eq_some hk)) fun hk => (hx hk).2)
  have hlong := wireMiddle_length_le (newAddr := d.newAddr) (hasIdentifyParam_of_form hmeta hform)
    fun hk => hlen.trans_le (hx hk).1
  obtain ⟨hlast, hbang, hseven⟩ := frame_shape (isPlain_of_isAddr haddr) hmid
  rw [wire_eq]
  refine ⟨rfl, hlast, hbang, ?_, ?_, hseven⟩
  all_goals
    simp only [List.length_cons, List.length_append, List.length_nil]
    omega

end Sys2Proof.Machine

/-! # The laws of `crc16` (R151, R152): O9 -/

namespace Sys2Proof.Machine

/-! ## One shift -/

theorem crc16Shift_xor (c d : BitVec 16) : crc16Shift (c ^^^ d) = crc16Shift c ^^^ crc16Shift d := by
  unfold crc16Shift
  rw [BitVec.getLsbD_xor, BitVec.ushiftRight_xor_distrib]
  cases c.getLsbD 0 <;> cases d.getLsbD 0
  case false.false => rfl
  case false.true => exact BitVec.xor_assoc ..
  case true.false => simp only [Bool.xor_false, if_true, Bool.false_eq_true, if_false]; ac_rfl
  case true.true =>
    have hcancel : (c >>> 1 ^^^ 0xA001#16) ^^^ (d >>> 1 ^^^ 0xA001#16) = (c >>> 1 ^^^ d >>> 1) ^^^ (0xA001#16 ^^^ 0xA001#16) := by
      ac_rfl
    simpa using hcancel.symm

/-- The highest bit of a shifted value is the bit shifted out, so only 0 goes to 0. -/
theorem eq_zero_of_crc16Shift {c : BitVec 16} (h : crc16Shift c = 0) : c = 0 := by
  unfold crc16Shift at h
  split at h
  next =>
    have htop := congrArg (·.getLsbD 15) h
    simp at htop
  next heven =>
    have hhalf : c.toNat / 2 = 0 := by simpa [Nat.shiftRight_eq_div_pow] using congrArg BitVec.toNat h
    have hlow : c.toNat % 2 = 0 := by simpa [BitVec.getLsbD, Nat.testBit_zero] using heven
    exact BitVec.eq_of_toNat_eq (show c.toNat = 0 by omega)

theorem crc16Shift_injective : Function.Injective crc16Shift := by
  intro c d h
  have hzero : crc16Shift (c ^^^ d) = 0 := by rw [crc16Shift_xor, h, BitVec.xor_self]; rfl
  exact BitVec.xor_eq_zero_iff.1 (eq_zero_of_crc16Shift hzero)

/-! ## One byte -/

theorem crc16Update_eq_iterate (c : BitVec 16) (b : Byte) :
    crc16Update c b = crc16Shift^[8] (c ^^^ b.setWidth 16) := rfl

theorem crc16Update_xor (c d : BitVec 16) (a b : Byte) :
    crc16Update (c ^^^ d) (a ^^^ b) = crc16Update c a ^^^ crc16Update d b := by
  have hlinear : Function.Semiconj₂ crc16Shift^[8] (· ^^^ ·) (· ^^^ ·) :=
    Function.Semiconj₂.iterate crc16Shift_xor 8
  have hregroup : c ^^^ d ^^^ (a ^^^ b).setWidth 16 = (c ^^^ a.setWidth 16) ^^^ (d ^^^ b.setWidth 16) := by
    rw [BitVec.setWidth_xor]; ac_rfl
  rw [crc16Update_eq_iterate, hregroup]
  exact hlinear.eq ..

theorem crc16Update_inj {c d : BitVec 16} {a b : Byte} :
    crc16Update c a = crc16Update d b ↔ c ^^^ a.setWidth 16 = d ^^^ b.setWidth 16 :=
  (crc16Shift_injective.iterate 8).eq_iff

theorem setWidth_byte_injective : Function.Injective fun b : Byte => b.setWidth 16 := by
  intro a b h
  have hback := congrArg (BitVec.setWidth 8) h
  simpa using hback

/-! ## A sequence, from any start -/

theorem foldl_crc16Update_xor {s t : List Byte} (hlen : s.length = t.length) (c d : BitVec 16) :
    (List.zipWith (· ^^^ ·) s t).foldl crc16Update (c ^^^ d) = s.foldl crc16Update c ^^^ t.foldl crc16Update d := by
  induction s generalizing t c d with
  | nil =>
    obtain rfl := List.eq_nil_of_length_eq_zero hlen.symm
    rfl
  | cons a s ih =>
    cases t with
    | nil => cases hlen
    | cons b t =>
      simp only [List.zipWith_cons_cons, List.foldl_cons, crc16Update_xor]
      exact ih (Nat.succ.inj hlen) ..

theorem foldl_crc16Update_injective (s : List Byte) : Function.Injective fun c => s.foldl crc16Update c := by
  induction s with
  | nil => exact fun _ _ h => h
  | cons b s ih => exact fun c d h => (BitVec.xor_left_inj _).1 (crc16Update_inj.1 (ih h))

/-- A sequence with one byte changed has another CRC: what precedes the byte is the same, and what follows it is injective. -/
theorem foldl_crc16Update_set_ne {s : List Byte} {n : Nat} {b : Byte} (hn : n < s.length) (hb : b ≠ s.getD n 0) (c : BitVec 16) :
    (s.set n b).foldl crc16Update c ≠ s.foldl crc16Update c := by
  induction s generalizing n c with
  | nil => cases hn
  | cons a s ih =>
    cases n with
    | zero =>
      intro h
      have hbyte := (BitVec.xor_right_inj _).1 (crc16Update_inj.1 (foldl_crc16Update_injective s h))
      exact hb (setWidth_byte_injective hbyte)
    | succ n => exact ih (Nat.lt_of_succ_lt_succ hn) hb (crc16Update c a)

theorem xor_twoPow_ne (b : Byte) {k : Nat} (hk : k < 8) : b ^^^ BitVec.twoPow 8 k ≠ b := by
  intro h
  have hbit := congrArg (·.getLsbD k) h
  simp [hk] at hbit

/-- Settles O9: linear and injective byte by byte; the check value by evaluation. -/
theorem crcLaws : Obligations.CrcLaws := by
  refine ⟨fun s t hlen => ?_, fun s n k hn hk => ?_, by decide +kernel, fun s t => ?_⟩
  · exact foldl_crc16Update_xor hlen 0 0
  · exact foldl_crc16Update_set_ne hn (xor_twoPow_ne _ hk) 0
  · exact List.foldl_append

end Sys2Proof.Machine

/-! # The text and the binary form of a CRC, and `verify` (R153 to R157): O10, O11 -/

namespace Sys2Proof.Machine

/-! ## The text form (R153, R154) -/

/-- The character of four bits is in the range R154 asks of `C0`, and its low bits are those four. -/
theorem crcChar4 (h : BitVec 4) :
    ¬(0x40#8 ||| h.setWidth 8 < 0x40#8 ∨ 0x4F#8 < 0x40#8 ||| h.setWidth 8) ∧ (0x40#8 ||| h.setWidth 8).extractLsb' 0 4 = h := by
  revert h; decide

/-- The character of six bits is in the range R154 asks of `C1` and `C2`, and its low bits are those six. -/
theorem crcChar6 (m : BitVec 6) :
    ¬(0x40#8 ||| m.setWidth 8 < 0x40#8 ∨ 0x7F#8 < 0x40#8 ||| m.setWidth 8) ∧ (0x40#8 ||| m.setWidth 8).extractLsb' 0 6 = m := by
  revert m; decide

theorem crcChar4_of_range {b : Byte} : ¬(b < 0x40#8 ∨ 0x4F#8 < b) → 0x40#8 ||| (b.extractLsb' 0 4).setWidth 8 = b := by
  revert b; decide

theorem crcChar6_of_range {b : Byte} : ¬(b < 0x40#8 ∨ 0x7F#8 < b) → 0x40#8 ||| (b.extractLsb' 0 6).setWidth 8 = b := by
  revert b; decide

/-- The shifts of `dec3` put four, six and six bits side by side. -/
theorem crcJoin_eq_append (h : BitVec 4) (m l : BitVec 6) :
    h.setWidth 16 <<< 12 ||| m.setWidth 16 <<< 6 ||| l.setWidth 16 = h ++ m ++ l := by
  have hshift : (h ++ m ++ l).setWidth 16 = h.setWidth 16 <<< (6 + 6) ||| m.setWidth 16 <<< 6 ||| l.setWidth 16 :=
    BitVec.setWidth_append_append_eq_shiftLeft_setWidth_or
  rw [← hshift, BitVec.setWidth_eq]

theorem enc3_append (h : BitVec 4) (m l : BitVec 6) :
    enc3 (h ++ m ++ l) = ⟨0x40#8 ||| h.setWidth 8, 0x40#8 ||| m.setWidth 8, 0x40#8 ||| l.setWidth 8⟩ := by
  have hhigh : (h ++ m ++ l).extractLsb' 12 4 = h := by
    iterate 2 refine (BitVec.extractLsb'_append_eq_of_le (by decide)).trans ?_
    exact BitVec.extractLsb'_eq_self
  have hmid : (h ++ m ++ l).extractLsb' 6 6 = m :=
    (BitVec.extractLsb'_append_eq_of_le (Nat.le_refl 6)).trans BitVec.extractLsb'_append_eq_right
  have hlow : (h ++ m ++ l).extractLsb' 0 6 = l := BitVec.extractLsb'_append_eq_right
  exact congr (congrArg₂ (fun x y z => CrcText.mk (0x40#8 ||| x.setWidth 8) (0x40#8 ||| y.setWidth 8) (0x40#8 ||| z.setWidth 8))
    hhigh hmid) hlow

theorem extract_append_extract (c : BitVec 16) : c.extractLsb' 12 4 ++ c.extractLsb' 6 6 ++ c.extractLsb' 0 6 = c := by
  have hhigh : c.extractLsb' 12 4 ++ c.extractLsb' 6 6 = c.extractLsb' 6 10 :=
    BitVec.extractLsb'_append_extractLsb'_eq_extractLsb' rfl
  rw [hhigh]
  exact (BitVec.extractLsb'_append_extractLsb'_eq_extractLsb' rfl).trans BitVec.extractLsb'_eq_self

theorem dec3_enc3 (c : BitVec 16) : dec3 (enc3 c) = some c := by
  obtain ⟨hrange0, hbits0⟩ := crcChar4 (c.extractLsb' 12 4)
  obtain ⟨hrange1, hbits1⟩ := crcChar6 (c.extractLsb' 6 6)
  obtain ⟨hrange2, hbits2⟩ := crcChar6 (c.extractLsb' 0 6)
  rw [enc3, dec3, if_neg hrange0, if_neg hrange1, if_neg hrange2, hbits0, hbits1, hbits2, crcJoin_eq_append]
  exact congrArg some (extract_append_extract c)

/-- `dec3` is the exact inverse of `enc3` (R155). -/
theorem dec3_eq_some_iff {x : CrcText} {c : BitVec 16} : dec3 x = some c ↔ enc3 c = x := by
  refine ⟨fun h => ?_, fun h => h ▸ dec3_enc3 c⟩
  unfold dec3 at h
  split at h
  next => cases h
  next hrange0 =>
    split at h
    next => cases h
    next hrange1 =>
      split at h
      next => cases h
      next hrange2 =>
        rw [crcJoin_eq_append] at h
        obtain rfl := Option.some.inj h
        refine (enc3_append ..).trans ?_
        rw [crcChar4_of_range hrange0, crcChar6_of_range hrange1, crcChar6_of_range hrange2]

/-- Settles O10: both directions of the one equivalence. -/
theorem crcTextRoundTrip : Obligations.CrcTextRoundTrip :=
  ⟨fun p => dec3_enc3 (crc16 p), dec3_enc3, fun _ _ => dec3_eq_some_iff.1⟩

/-! ## `verify` (R156, R157) -/

theorem decb_encb (c : BitVec 16) : decb (encb c).1 (encb c).2 = c := by
  have hjoin : (encb c).2 ++ (encb c).1 = c :=
    (BitVec.extractLsb'_append_extractLsb'_eq_extractLsb' rfl).trans BitVec.extractLsb'_eq_self
  have hshift : ((encb c).2 ++ (encb c).1).setWidth 16 = (encb c).2.setWidth 16 <<< 8 ||| (encb c).1.setWidth 16 :=
    BitVec.setWidth_append_eq_shiftLeft_setWidth_or
  rw [decb, BitVec.or_comm, ← hshift, BitVec.setWidth_eq]
  exact hjoin

theorem verifyAscii_append (s : List Byte) (x : CrcText) :
    verifyAscii (s ++ [x.c0, x.c1, x.c2]) = (dec3 x).elim .crcDecode (compareCrc (crc16 s)) := by
  have hlen : (s ++ [x.c0, x.c1, x.c2]).length - 3 = s.length := by simp
  unfold verifyAscii
  rw [hlen, List.drop_left, List.take_left]
  dsimp only
  cases dec3 x <;> rfl
theorem verifyBinary_append (s : List Byte) (a b : Byte) :
    verifyBinary (s ++ [a, b]) = compareCrc (crc16 s) (decb a b) := by
  have hlen : (s ++ [a, b]).length - 2 = s.length := by simp
  unfold verifyBinary
  rw [hlen, List.drop_left, List.take_left]

theorem verifyAscii_of_short {s : List Byte} (h : s.length < 3) : verifyAscii s = .crcDecode := by
  match s, h with
  | [], _ | [_], _ | [_, _], _ => rfl

theorem verifyBinary_of_short {s : List Byte} (h : s.length < 2) : verifyBinary s = .crcDecode := by
  match s, h with
  | [], _ | [_], _ => rfl

/-- Settles O11: what follows the checked part is decoded, and compared with the CRC of that part. -/
theorem verifyAcceptsOwnCrc : Obligations.VerifyAcceptsOwnCrc := by
  refine ⟨fun s c => ?_, fun s c => ?_, fun s x hx => ?_, fun s => verifyAscii_of_short, fun s => verifyBinary_of_short⟩
  · rw [verifyAscii_append, dec3_enc3]; rfl
  · rw [verifyBinary_append, decb_encb]; rfl
  · rw [verifyAscii_append, hx]; rfl

end Sys2Proof.Machine

/-! # The CRC operations (R158 to R162): O29 to O31 -/

namespace Sys2Proof.Machine

section
variable {s : State}

/-! ## The range of `CRC_CTL`, `CRC_START` and `CRC_END` (R49, R158) -/

theorem crcSpace_of_selects {sp : Space} (h : s.crcSelects sp) : s.crcSpace = some sp := by
  unfold State.crcSpace
  obtain ⟨rfl, hbuf⟩ | ⟨rfl, hbuf⟩ | ⟨rfl, hbuf⟩ := h <;> rw [hbuf] <;> rfl

/-- Acceptance changes neither the CRC registers nor the buffers. -/
theorem crcRange_accepted (s : State) : s.accepted.crcRange = s.crcRange := by
  have hread (sp : Space) (i n : Nat) : s.accepted.readBytes sp i n = s.readBytes sp i n :=
    readBytes_congr (s := s) (t := s.accepted) ⟨rfl, rfl, rfl⟩ sp i n
  simp only [State.crcRange, hread]
  rfl

theorem crcRange_of_reserved (h : s.crcCtl.extractLsb' 0 2 = 3) : s.crcRange = none := by
  unfold State.crcRange State.crcSpace
  rw [h]
  rfl

theorem crcInside_iff {sp : Space} : s.crcInside sp ↔ ¬(s.crcEnd < s.crcStart ∨ s.size sp < s.crcEnd.toNat) := by
  rw [State.crcInside, not_or, BitVec.not_lt, Nat.not_lt]

theorem crcRange_of_inside {sp : Space} (h : s.crcSelects sp) (hin : s.crcInside sp) : s.crcRange = some (s.crcBytes sp) := by
  rw [State.crcRange, crcSpace_of_selects h]
  exact if_neg (crcInside_iff.1 hin)

theorem crcRange_of_outside {sp : Space} (h : s.crcSelects sp) (hout : ¬s.crcInside sp) : s.crcRange = none := by
  rw [State.crcRange, crcSpace_of_selects h]
  exact if_pos (not_not.1 (mt crcInside_iff.2 hout))

/-! ## `CRC_COMPUTE` (R158) -/

theorem exec_crcCompute_of_none (hb : s.busy = false) (h : s.crcRange = none) :
    exec .crcCompute s = .next (s.finished .illegalEncoding) := by
  rw [exec, execCrcCompute, accept_quiescent hb, crcRange_accepted, h]
  rfl

theorem exec_crcCompute_of_some (hb : s.busy = false) {bs : List Byte} (h : s.crcRange = some bs) :
    exec .crcCompute s = .next { s.finished .noError with crcVal := crc16 bs } := by
  rw [exec, execCrcCompute, accept_quiescent hb, crcRange_accepted, h]
  rfl

/-! ## `CRC_ENC_ASCII` and `CRC_DEC_ASCII` (R159, R160) -/

theorem exec_crcEncAscii_quiescent (hb : s.busy = false) :
    exec .crcEncAscii s =
      .next { s.finished .noError with crcTxt := (enc3 s.crcVal).c2 ++ (enc3 s.crcVal).c1 ++ (enc3 s.crcVal).c0 } := by
  rw [exec, execCrcEncAscii, accept_quiescent hb]
  rfl

theorem exec_crcDecAscii_of_none (hb : s.busy = false) (h : dec3 s.crcText = none) :
    exec .crcDecAscii s = .next (s.finished .crcDecode) := by
  have haccepted : dec3 s.accepted.crcText = none := h
  rw [exec, execCrcDecAscii, accept_quiescent hb, haccepted]
  rfl

theorem exec_crcDecAscii_of_some (hb : s.busy = false) {v : BitVec 16} (h : dec3 s.crcText = some v) :
    exec .crcDecAscii s = .next { s.finished .noError with crcVal := v } := by
  have haccepted : dec3 s.accepted.crcText = some v := h
  rw [exec, execCrcDecAscii, accept_quiescent hb, haccepted]
  rfl

/-- The bytes of three put side by side. -/
theorem extract_bytes (c2 c1 c0 : Byte) :
    (c2 ++ c1 ++ c0).extractLsb' 0 8 = c0 ∧ (c2 ++ c1 ++ c0).extractLsb' 8 8 = c1 ∧ (c2 ++ c1 ++ c0).extractLsb' 16 8 = c2 := by
  refine ⟨BitVec.extractLsb'_append_eq_right, ?_, ?_⟩
  · exact (BitVec.extractLsb'_append_eq_of_le (Nat.le_refl 8)).trans BitVec.extractLsb'_append_eq_right
  · exact (BitVec.extractLsb'_append_eq_of_le (by decide)).trans BitVec.extractLsb'_append_eq_left

/-! ## `CRC_VERIFY` (R162) -/

/-- The state a verification that came to a result ends in. -/
def State.afterVerify (s : State) : VerifyResult → State
  | .ok v => { s.finished .noError with crcVal := v }
  | .crcMismatch v _ => { s.finished .crcMismatch with crcVal := v }
  | .crcDecode => s.finished .crcDecode

theorem exec_crcVerify_of_none (hb : s.busy = false) (h : s.crcRange = none) :
    exec .crcVerify s = .next (s.finished .illegalEncoding) := by
  rw [exec, execCrcVerify, accept_quiescent hb, crcRange_accepted, h]
  rfl

theorem exec_crcVerify_of_some (hb : s.busy = false) {bs : List Byte} (h : s.crcRange = some bs) :
    exec .crcVerify s = .next (s.afterVerify (s.crcVerified bs)) := by
  have haccepted : s.accepted.crcVerified bs = s.crcVerified bs := rfl
  rw [exec, execCrcVerify, accept_quiescent hb, crcRange_accepted, h]
  dsimp only
  rw [haccepted]
  cases s.crcVerified bs <;> rfl

end

/-- Settles O29: the range of the buffer selected, taken or refused. -/
theorem crcComputeResult : Obligations.CrcComputeResult := by
  refine fun s hb => ⟨fun sp hsel => ⟨fun hin => ?_, fun hout => ?_⟩, fun hres => ?_⟩
  · exact exec_crcCompute_of_some hb (crcRange_of_inside hsel hin)
  · exact exec_crcCompute_of_none hb (crcRange_of_outside hsel hout)
  · exact exec_crcCompute_of_none hb (crcRange_of_reserved hres)

/-- Settles O30: the three bytes of `CRC_TXT` read back, and `dec3` of them taken or refused. -/
theorem crcTextOperations : Obligations.CrcTextOperations :=
  fun _ hb => ⟨⟨_, exec_crcEncAscii_quiescent hb, extract_bytes ..⟩,
    fun _ => exec_crcDecAscii_of_some hb, exec_crcDecAscii_of_none hb⟩

/-- Settles O31: the range as for `CRC_COMPUTE`, and a case of `afterVerify` for each result. -/
theorem crcVerifyResult : Obligations.CrcVerifyResult := by
  refine fun s hb => ⟨fun hres => exec_crcVerify_of_none hb (crcRange_of_reserved hres), fun sp hsel => ⟨fun hout => ?_, fun hin => ?_⟩⟩
  · exact exec_crcVerify_of_none hb (crcRange_of_outside hsel hout)
  · have hexec : exec .crcVerify s = .next (s.afterVerify (s.crcVerified (s.crcBytes sp))) :=
      exec_crcVerify_of_some hb (crcRange_of_inside hsel hin)
    have hresult {r : VerifyResult} (h : s.crcVerified (s.crcBytes sp) = r) : exec .crcVerify s = .next (s.afterVerify r) :=
      h ▸ hexec
    exact ⟨fun _ => hresult, fun _ _ => hresult, hresult⟩

end Sys2Proof.Machine

/-! # The commands to an address, the identify-measurement and the extended commands, and the two operations that check a descriptor
and send nothing (R171, R180 to R184, R186, R188, R189, R191, R196, R197, R199 to R209, R224 to R226, R294): O14, O18, O20, O27, O28 -/

namespace Sys2Proof.Machine

/-! ## The commands -/

/-- Settles O14: each is a well-formed command whose wire string is its encoding; only `CHADDR` has a second address. -/
theorem addressCommandsStart : Obligations.AddressCommandsStart := by
  intro s a ha
  refine ⟨?_, ?_, ?_, ?_, ?_, ?_, ?_, ?_, ?_, ?_, fun b hb => ?_⟩
  case refine_2 => exact transacts_of_encode rfl rfl rfl rfl rfl rfl
  case refine_11 => exact transacts_of_encode rfl (Bool.and_eq_true_iff.2 ⟨ha, hb⟩) rfl rfl rfl rfl
  all_goals exact transacts_of_encode rfl ha rfl rfl rfl rfl

/-- Settles O18: seven commands without a digit, four with a set digit, as for O15. -/
theorem identifyCommandsStart : Obligations.IdentifyCommandsStart := by
  intro s a ha
  refine ⟨?_, ?_, ?_, ?_, ?_, ?_, ?_, fun n h1 h9 => ?_⟩
  case refine_8 =>
    have hw : (isSensorAddr a && wfSet n) = true := Bool.and_eq_true_iff.2 ⟨ha, wfSet_iff.2 ⟨h1, h9⟩⟩
    have htext := setText_eq h1 h9
    refine ⟨?_, ?_, ?_, ?_⟩
    all_goals exact transacts_of_encode rfl hw rfl rfl (by rw [encode, htext]; rfl) rfl
  all_goals exact transacts_of_encode rfl ha rfl rfl rfl rfl

theorem isBodyByte_iff {c : Byte} : isBodyByte c = true ↔ 0x20#8 ≤ c ∧ c ≤ 0x7E#8 ∧ c ≠ 0x21#8 := by
  rw [isBodyByte, Bool.and_eq_true, Bool.and_eq_true, decide_eq_true_eq, decide_eq_true_eq, Bool.not_eq_true', beq_eq_false_iff_ne,
    and_assoc]
  rfl

/-- Settles O20: the command's own two checks pass. Its body may be longer than `XLEN` can count, so no descriptor stands behind it. -/
theorem extendedCommandStarts : Obligations.ExtendedCommandStarts := by
  intro s a body crc ha hfit hbytes hadm
  have hbody : body.all isBodyByte = true := List.all_eq_true.2 fun b hb => isBodyByte_iff.2 (hbytes b hb)
  have hchecks : withAddr a (withBody s.params.xbufSize body (.ok ([a] ++ body ++ [Ascii.bang]))) =
      .ok ([a] ++ body ++ [Ascii.bang]) := withAddr_ok.2 ⟨ha, withBody_ok.2 ⟨⟨hfit, hbody⟩, rfl⟩⟩
  have hlen : ([a] ++ body ++ [Ascii.bang]).length = 2 + body.length := by simp; omega
  rw [Transacts, exec, execX, hchecks]
  exact issue_started hadm.1 (construct_of_admits (by rwa [hlen]))

/-! ## `ADDR_CHECK` (R171) -/

theorem exec_addrCheck_quiescent {s : State} (hb : s.busy = false) :
    exec .addrCheck s = .next (s.finished (if isAddr s.descriptor.addr = true then .noError else .invalidAddress)) := by
  rw [exec, execAddrCheck, accept_quiescent hb]
  have haddr : s.accepted.descriptor.addr = s.descriptor.addr := rfl
  rw [haddr]
  split <;> rfl

/-- Settles O27: the operation by its two cases, the rule's corner cases by evaluation. -/
theorem addrCheckResult : Obligations.AddrCheckResult :=
  ⟨fun _ hb => exec_addrCheck_quiescent hb, by decide, by decide, by decide⟩

/-! ## `CMD_FORMAT` (R225, R226) -/

section
variable {s : State}

/-- Acceptance changes nothing the construction check reads. -/
theorem construct_accepted (s : State) (b : Bool) :
    s.accepted.construct b s.accepted.builtFromRegs = s.construct b s.builtFromRegs :=
  construct_congr (s := s) rfl rfl rfl rfl rfl rfl rfl

theorem exec_cmdFormat_error (hb : s.busy = false) {e : ErrKind} (h : s.construct false s.builtFromRegs = .error e) :
    exec .cmdFormat s = .next { s.finished e with txLen := 0 } := by
  rw [exec, execCmdFormat, accept_quiescent hb, construct_accepted, h]
  rfl

theorem exec_cmdFormat_ok (hb : s.busy = false) {w : List Byte} (h : s.construct false s.builtFromRegs = .ok w) :
    exec .cmdFormat s = .next (s.accepted.formatInto w).completed := by
  rw [exec, execCmdFormat, accept_quiescent hb, construct_accepted, h]

end

/-- Formatting leaves every byte that is not of the wire string. -/
theorem formatInto_read_other (s : State) {w : List Byte} {sp : Space} {j : Nat} (h : sp ≠ .tx ∨ w.length ≤ j) :
    (s.formatInto w).read sp j = s.read sp j := by
  rw [formatInto_read, if_neg fun hin => h.elim (· hin.1) (Nat.not_le.2 hin.2)]

/-- Settles O28: on success the state is an accepted one, formatted into and completed; `formatInto` has its laws. -/
theorem cmdFormatResult : Obligations.CmdFormatResult := by
  refine fun s hb => ⟨fun e => exec_cmdFormat_error hb, fun w hw => ⟨_, exec_cmdFormat_ok hb hw, ?_, ?_, fun sp j hout => ?_⟩⟩
  · rw [formatInto_eq]; rfl
  · rw [readBytes_congr (s := s.accepted.formatInto w) (by simp), formatInto_readBytes]
  · rw [read_congr (s := s.accepted.formatInto w) (by simp), formatInto_read_other _ hout, read_congr (s := s) (by simp)]

end Sys2Proof.Machine

/-! # An ill-formed command is refused by the check of the operand at fault (R106, R108, R172, R175, R224, R294): O21 -/

namespace Sys2Proof.Machine

/-- The errors an operand's own check gives (R172, R175 steps 3 to 7). -/
abbrev ErrKind.OfOperand (e : ErrKind) : Prop := e = .invalidAddress ∨ e = .indexOutOfRange ∨ e = .illegalEncoding

/-- A construction check stopped by an operand. -/
def OperandRefused (r : Except ErrKind (List Byte)) : Prop := ∃ e : ErrKind, e.OfOperand ∧ r = .error e

/-! ## Each check refuses its own operand, or leaves the refusal to the checks after it -/

theorem withAddr_refused {a : Byte} {k : Except ErrKind (List Byte)} (h : isSensorAddr a = false ∨ OperandRefused k) :
    OperandRefused (withAddr a k) := by
  unfold withAddr
  cases ha : isSensorAddr a
  · exact ⟨_, .inl rfl, rfl⟩
  · exact h.resolve_left (by simp [ha])

theorem withIndex_refused {α : Type} {n : Option α} {k : α → Except ErrKind (List Byte)}
    (h : ∀ m, n = some m → OperandRefused (k m)) : OperandRefused (withIndex n k) := by
  cases n with
  | none => exact ⟨_, .inr (.inl rfl), rfl⟩
  | some m => exact h m rfl

theorem withSetDigit_refused {n : BitVec 10} {k : SetIndex → Except ErrKind (List Byte)}
    (h : wfSet n = false ∨ ∀ m, OperandRefused (k m)) : OperandRefused (withSetDigit n k) := by
  by_cases hne : n = 0
  · exact ⟨_, .inr (.inl rfl), if_pos hne⟩
  · rw [withSetDigit, if_neg hne]
    refine withIndex_refused fun m hm => ?_
    have hwf : wfSet n = true := wfSet_of_ok (k := fun _ => .ok []) (withSetDigit_ok.2 ⟨hne, m, hm, rfl⟩)
    exact h.resolve_left (by simp [hwf]) m

theorem withContDigit_refused {n : BitVec 10} {k : ContIndex → Except ErrKind (List Byte)}
    (h : wfCont n = false ∨ ∀ m, OperandRefused (k m)) : OperandRefused (withContDigit n k) := by
  refine withIndex_refused fun m hm => ?_
  have hwf : wfCont n = true := wfCont_of_ok (k := fun _ => .ok []) (withContDigit_ok.2 ⟨m, hm, rfl⟩)
  exact h.resolve_left (by simp [hwf]) m

theorem withDataIndex_refused {n : BitVec 10} {k : DataIndex → Except ErrKind (List Byte)} (h : wfData n = false) :
    OperandRefused (withDataIndex n k) := by
  refine withIndex_refused fun m hm => ?_
  have hwf : wfData n = true := wfData_of_ok (k := fun _ => .ok []) (withDataIndex_ok.2 ⟨m, hm, rfl⟩)
  simp [hwf] at h

theorem withParam_refused {p : BitVec 10} {k : ParamNumber → Except ErrKind (List Byte)} (h : wfParam p = false) :
    OperandRefused (withParam p k) := by
  refine withIndex_refused fun m hm => ?_
  have hwf : wfParam p = true := wfParam_of_ok (k := fun _ => .ok []) (withParam_ok.2 ⟨m, hm, rfl⟩)
  simp [hwf] at h

/-- A body longer than `XLEN` can count is longer than `XBUF` as well (R8, R120). -/
theorem withBody_refused {n : Nat} (hn : n ≤ 255) {body : List Byte} {k : Except ErrKind (List Byte)} (h : wfBody body = false) :
    OperandRefused (withBody n body k) := by
  refine ⟨_, .inr (.inr rfl), if_neg ?_⟩
  rintro ⟨hfit, hbytes⟩
  simp [wfBody, hbytes] at h
  omega

/-! ## The commands -/

/-- An ill-formed command is a `TRANSACT` that an operand's check stops. -/
theorem exec_illFormed {i : Instr} {d : Descriptor} (hd : encodeCommand i = some d) (hw : i.wf = false) {s : State}
    (hsize : s.params.xbufSize ≤ 255) : ∃ fmt r, exec i s = issue s fmt r ∧ OperandRefused r := by
  cases i
  case query => cases hw
  case nop | transact | cmdFormat | addrCheck | crcCompute | crcEncAscii | crcDecAscii | crcVerify | clear | reservedOp9 |
    reservedOpA | reservedOpB | reservedOpC | reservedOpD | reservedOpE | reservedOpF => cases hd
  case chaddr =>
    exact ⟨_, _, rfl, withAddr_refused ((Bool.and_eq_false_iff.1 hw).imp_right fun hb => withAddr_refused (.inl hb))⟩
  case x => exact ⟨_, _, rfl, withAddr_refused ((Bool.and_eq_false_iff.1 hw).imp_right (withBody_refused hsize))⟩
  case mn | mcn | cn | ccn | imn | imcn | icn | iccn =>
    exact ⟨_, _, rfl, withAddr_refused ((Bool.and_eq_false_iff.1 hw).imp_right fun hn => withSetDigit_refused (.inl hn))⟩
  case rn | rcn =>
    exact ⟨_, _, rfl, withAddr_refused ((Bool.and_eq_false_iff.1 hw).imp_right fun hn => withContDigit_refused (.inl hn))⟩
  case dn | dbn => exact ⟨_, _, rfl, withAddr_refused ((Bool.and_eq_false_iff.1 hw).imp_right withDataIndex_refused)⟩
  case imP | imcP | ivP | icP | iccP | ihaP | ihbP =>
    exact ⟨_, _, rfl, withAddr_refused ((Bool.and_eq_false_iff.1 hw).imp_right withParam_refused)⟩
  case imnP | imcnP | icnP | iccnP =>
    have hfault := Bool.and_eq_false_iff.1 ((Bool.and_assoc ..).symm.trans hw)
    exact ⟨_, _, rfl, withAddr_refused (hfault.imp_right fun hnp =>
      withSetDigit_refused ((Bool.and_eq_false_iff.1 hnp).imp_right fun hp _ => withParam_refused hp))⟩
  case irnP | ircnP =>
    have hfault := Bool.and_eq_false_iff.1 ((Bool.and_assoc ..).symm.trans hw)
    exact ⟨_, _, rfl, withAddr_refused (hfault.imp_right fun hnp =>
      withContDigit_refused ((Bool.and_eq_false_iff.1 hnp).imp_right fun hp _ => withParam_refused hp))⟩
  all_goals exact ⟨_, _, rfl, withAddr_refused (.inl hw)⟩

/-- Settles O21: illegal capacities come first, with an error that is one of the three; else the operand's check decides. -/
theorem illFormedCommandsFail : Obligations.IllFormedCommandsFail := by
  intro i d s hd hw hsize hb
  obtain ⟨fmt, r, hexec, e, he, rfl⟩ := exec_illFormed hd (Bool.eq_false_iff.2 hw) hsize
  rw [hexec]
  by_cases hcap : s.BadCapacity
  · exact ⟨_, .inr (.inr rfl), issue_error hb (construct_of_badCapacity hcap _)⟩
  · exact ⟨e, he, issue_error hb (construct_error_of_checks hcap e)⟩

end Sys2Proof.Machine

/-! # The construction check test by test (R106, R121, R122, R172, R175): O13 -/

namespace Sys2Proof.Machine

theorem isBodyByte_eq_false_iff {c : Byte} : isBodyByte c = false ↔ c < 0x20#8 ∨ 0x7E#8 < c ∨ c = 0x21#8 := by
  rw [← Bool.not_eq_true, isBodyByte_iff, not_and_or, not_and_or, BitVec.not_le, BitVec.not_le, not_ne_iff]

/-! ## The tests over the numbers in the register fields -/

/-- Step 2 for `KIND`: the fifteen codes of R121 are the numbers up to `0x0E`. -/
theorem ofCode_eq_none_iff {b : Byte} : Kind.ofCode b = none ↔ 0x0E < b.toNat := by
  revert b; decide

theorem hasIdentify_eq_false_iff {k : Kind} : hasIdentify k = false ↔ k.code.toNat ∉ [3, 4, 5, 6, 7, 11, 12] := by
  cases k <;> decide

theorem hasIdentifyParam_eq_false_iff {k : Kind} :
    hasIdentifyParam k = false ↔ k.code.toNat ∉ [3, 4, 5, 6, 7, 8, 9, 11, 12] := by
  cases k <;> decide

theorem ofCode_code (k : Kind) : Kind.ofCode k.code = some k := by
  cases k <;> rfl

theorem kind_eq_iff_toNat {k j : Kind} : k = j ↔ k.code.toNat = j.code.toNat := by
  refine ⟨fun h => h ▸ rfl, fun h => Option.some.inj ?_⟩
  rw [← ofCode_code k, ← ofCode_code j, BitVec.eq_of_toNat_eq h]

/-- Step 5: a kind with a digit takes `0 .. 9`, a kind with a data-set index `0 .. 999`, the others any field. -/
theorem family_ofFields_eq_none {k : Kind} {idx : BitVec 10} :
    Family.ofFields k idx = none ↔
      (k.code.toNat ∈ [3, 4, 6, 7, 8, 9] ∧ 9 < idx.toNat) ∨ (k.code.toNat ∈ [10, 13] ∧ 999 < idx.toNat) := by
  cases k
  case m | mc | c | cc => simp [Family.ofFields, Kind.code, setIndex_ofField_eq_none]
  case r | rc => simp [Family.ofFields, Kind.code, contIndex_ofField_eq_none]
  case d | db => simp [Family.ofFields, Kind.code, dataIndex_ofField_eq_none]
  all_goals simp [Family.ofFields, Kind.code]

/-- Step 6: only the form with a parameter number looks at `PARAM`. -/
theorem form_ofFields_eq_none {m : BitVec 2} (hm : m ≠ 3) {p : BitVec 10} :
    Form.ofFields m p = none ↔ m.toNat = 2 ∧ (p.toNat = 0 ∨ 999 < p.toNat) := by
  rcases metaForm_cases m with rfl | rfl | rfl | rfl
  case inr.inr.inl => simp [Form.ofFields, paramNumber_ofField_eq_none]
  case inr.inr.inr => exact absurd rfl hm
  all_goals simp [Form.ofFields]

/-- A buffer range with a byte that fails a test has an index at which it fails. -/
theorem readBytes_all_eq_false {s : State} {sp : Space} {f : Byte → Bool} {i n : Nat} :
    (s.readBytes sp i n).all f = false ↔ ∃ j < n, f (s.read sp (i + j)) = false := by
  induction n generalizing i with
  | zero => simp [State.readBytes]
  | succ n ih =>
    rw [State.readBytes, List.all_cons, Bool.and_eq_false_iff, ih, Nat.exists_lt_succ_left]
    simp only [Nat.add_zero, Nat.add_assoc, Nat.add_comm 1]

/-- Step 7 for the bytes of the body (R128, R224). -/
theorem xbody_all_eq_false {s : State} :
    s.xbody.all isBodyByte = false ↔
      ∃ j < s.descriptor.xlen.toNat, s.read .xb j < 0x20#8 ∨ 0x7E#8 < s.read .xb j ∨ s.read .xb j = 0x21#8 := by
  simp only [State.xbody, readBytes_all_eq_false, Nat.zero_add, isBodyByte_eq_false_iff]

/-! ## What follows the checks of a command's own fields -/

/-- Step 8 of R175: a wire string that has passed all other checks must fit `TX_CAP`. -/
def State.capped (s : State) (built : Except ErrKind (List Byte)) : Except ErrKind (List Byte) :=
  match built with
  | .error e => .error e
  | .ok w => if s.txCap.toNat < w.length then .error .capacity else .ok w

theorem construct_eq_capped (s : State) (forTransact : Bool) (built : Except ErrKind (List Byte)) :
    s.construct forTransact built =
      if s.params.txbufSize < s.txCap.toNat then .error .illegalEncoding
      else if forTransact = true ∧ (s.rxCap = 0 ∨ s.params.rxbufSize < s.rxCap.toNat) then .error .illegalEncoding
      else s.capped built := rfl

section
variable {s : State} {built x y : Except ErrKind (List Byte)} {c c' : Prop} [Decidable c] [Decidable c'] {e : ErrKind}

/-- One test in front of the others: where it fails its error is the result, else the rest decides. -/
theorem capped_of_ite (hb : built = if c then .error e else x) (hc : c ↔ c') (h : ¬c → built = x → s.capped built = y) :
    s.capped built = if c' then .error e else y := by
  by_cases hcase : c
  · rw [hb, if_pos hcase, if_pos (hc.1 hcase), State.capped]
  · rw [if_neg (mt hc.2 hcase)]
    exact h hcase (hb.trans (if_neg hcase))

/-- The same for a test that makes an index from its field (R172). -/
theorem capped_of_withIndex {α : Type} {n : Option α} {k : α → Except ErrKind (List Byte)} (hb : built = withIndex n k)
    (hc : n = none ↔ c') (h : ∀ m, built = k m → s.capped built = y) :
    s.capped built = if c' then .error .indexOutOfRange else y := by
  cases n with
  | none => rw [hb, if_pos (hc.1 rfl), withIndex, State.capped]
  | some m => rw [if_neg (mt hc.2 (by simp)), h m hb]

end

/-- When all tests pass, the registers spell a command and the result is its wire string (R123, R126). -/
theorem carried_of_built {s : State} {w : List Byte} (h : s.builtFromRegs = .ok w) : ∃ i, s.carried = some i ∧ encode i = w := by
  obtain ⟨k, hk, hform⟩ := hasForm_of_checkedWire_ok h
  obtain ⟨i, hi⟩ := decodeCommand_of_hasForm hk hform s.xbody
  obtain ⟨-, -, henc⟩ := (checksFor_decodeCommand (readBytes_length s .xb 0 _) hi w).1 h
  exact ⟨i, by rw [State.carried, hi], henc⟩

/-- Settles O13: each test of `checkedWire` in its turn, in the words of the statement. -/
theorem constructionCheckOrder : Obligations.ConstructionCheckOrder := by
  intro s forTransact addr kind idx form param newAddr xlen
  rw [construct_eq_capped]
  refine ite_congr rfl (fun _ => rfl) fun _ => ite_congr rfl (fun _ => rfl) fun _ => ?_
  have hmeta (m : BitVec 2) : s.descriptor.metaForm = m ↔ form = m.toNat := BitVec.toNat_inj.symm
  cases hk : Kind.ofCode s.descriptor.kind with
  | none =>
    have hbuilt : s.builtFromRegs = .error .illegalEncoding := by rw [State.builtFromRegs, checkedWire, hk]
    rw [if_pos (.inl (ofCode_eq_none_iff.1 hk)), hbuilt]
    rfl
  | some k =>
    have hcode : kind = k.code.toNat := congrArg BitVec.toNat (ofCode_eq_some hk)
    have hlegal : ¬0x0E < kind := fun h => Option.some_ne_none k (hk.symm.trans (ofCode_eq_none_iff.2 h))
    have hbuilt : s.builtFromRegs = checkedWire s.params.xbufSize s.descriptor s.xbody := rfl
    rw [checkedWire, hk] at hbuilt
    rw [hcode] at hlegal ⊢
    -- R175 step 2, the form; steps 3 and 4, the addresses; step 5, the index; step 6, the parameter; step 7, the body
    refine capped_of_ite hbuilt ((hmeta 3).trans (or_iff_right hlegal).symm) fun hm hbuilt => ?_
    refine capped_of_ite hbuilt (and_congr (hmeta 1) hasIdentify_eq_false_iff) fun _ hbuilt => ?_
    refine capped_of_ite hbuilt (and_congr (hmeta 2) hasIdentifyParam_eq_false_iff) fun _ hbuilt => ?_
    refine capped_of_ite hbuilt Iff.rfl fun _ hbuilt => ?_
    refine capped_of_ite hbuilt (and_congr_right' (not_congr (and_congr kind_eq_iff_toNat (hmeta 0)))) fun _ hbuilt => ?_
    refine capped_of_ite hbuilt (and_congr_left' kind_eq_iff_toNat) fun _ hbuilt => ?_
    refine (capped_of_withIndex hbuilt family_ofFields_eq_none fun f hbuilt => ?_).trans (ite_or ..)
    refine capped_of_withIndex hbuilt (form_ofFields_eq_none hm) fun g hbuilt => ?_
    refine capped_of_ite hbuilt (and_congr_left' kind_eq_iff_toNat) fun _ hbuilt => ?_
    refine capped_of_ite hbuilt (and_congr kind_eq_iff_toNat xbody_all_eq_false) fun _ hbuilt => ?_
    obtain ⟨i, hi, henc⟩ := carried_of_built hbuilt
    rw [hbuilt, hi, ← henc]
    rfl

end Sys2Proof.Machine

/-! # The send-side states with a timer of their own (R242, R243, R302, R303, R306, R313): O47, O48 -/

namespace Sys2Proof.Machine

variable {s t a : State} {k : StepOutcome}

/-! ## The guard of a send-side handler, case by case -/

theorem sendGuard_of_pastDeadline (h : a.pastDeadline a.cur.now) : a.sendGuard k = .next (a.failFinal .timeout) :=
  if_pos ((abortDue_iff a).2 h)

theorem sendGuard_of_txErr (h : ¬a.pastDeadline a.cur.now) {e : BitVec 7} (he : a.cur.txErr = some e) :
    a.sendGuard k = .next (a.attemptFail .transport (transportSub e)) := by
  rw [State.sendGuard, if_neg (mt (abortDue_iff a).1 h), he]

theorem sendGuard_of_noTxErr (h : ¬a.pastDeadline a.cur.now) (he : a.cur.txErr = none) : a.sendGuard k = k := by
  rw [State.sendGuard, if_neg (mt (abortDue_iff a).1 h), he]

/-! ## A busy step -/

/-- The engine phase of a busy step runs in the state before the step, but for what the host and the environment bring; nothing has
been handed to the transport yet (R290, R292). -/
theorem step_busy (h : step s = .next t) (hr : t.cur.rst = false) (hb : s.busy = true) :
    ∃ b u, b.cur = t.cur ∧ b.out.tx = none ∧ (s.beside b).enginePhase s.state = .next u ∧ t = u.drive := by
  rcases step_cases h with ⟨hrst, rfl⟩ | ⟨-, a, u, ha, hu, rfl⟩
  · exact absurd (hrst.symm.trans hr) (by decide)
  · obtain ⟨inputs, envIdx, cur, hlatch⟩ := latch_record s
    have hbl : s.latch.busy = true := by rw [hlatch]; exact hb
    rw [hostPhase_busy hbl, hlatch] at ha
    cases ha
    exact ⟨_, u, (enginePhase_cur hu).symm, rfl, hu, rfl⟩

/-- A busy step hands over no byte outside `CommandSent` (R248). -/
theorem step_tx_none (h : step s = .next t) (hr : t.cur.rst = false) (hq : s.state ≠ .commandSent) : t.out.tx = none := by
  obtain ⟨-, -, -, hbyte, -⟩ := stepOutputs s t h hr
  exact Option.eq_none_iff_forall_ne_some.2 fun lb hlb => hq (hbyte lb hlb).1

/-! ## The two states and their timers -/

/-- The end of the break (R242, R302). -/
def State.breakEnded (s : State) : State := { s with breakO := false, t0 := s.cur.now, state := .markingWait }

/-- The end of the marking period (R243, R303). -/
def State.markingEnded (s : State) : State := { s with txPtr := 0, state := .commandSent }

/-- A handler that waits for `limit` ticks since `r.t0` and then goes on with `next`, behind the guard of the send side. -/
def State.timedSend (s : State) (limit : Params → Nat) (next : State → State) : StepOutcome :=
  s.sendGuard <| if limit s.params ≤ s.elapsed s.t0 then .next (next s) else .next s

theorem breakSentPhase_eq_timedSend (s : State) : s.breakSentPhase = s.timedSend Params.tBreakMin State.breakEnded := rfl

theorem markingWaitPhase_eq_timedSend (s : State) : s.markingWaitPhase = s.timedSend Params.tMark State.markingEnded := rfl

/-- A step in a state whose handler is a timed one. `hnext` says that `next` leaves alone what the host and the environment bring. -/
theorem step_timedSend {limit : Params → Nat} {next : State → State}
    (hphase : ∀ a : State, a.enginePhase s.state = a.timedSend limit next)
    (hnext : ∀ b, (next (s.beside b)).drive = next (s.beside (next (s.beside b)).drive))
    (h : step s = .next t) (hr : t.cur.rst = false) (hb : s.busy = true) :
    (s.pastDeadline t.cur.now → t = (s.beside t).afterAbort) ∧
    (¬s.pastDeadline t.cur.now →
      (∀ e, t.cur.txErr = some e → t = (s.beside t).afterAttemptFail .transport (transportSub e)) ∧
      (t.cur.txErr = none →
        (limit s.params ≤ t.cur.now.toNat - s.t0.toNat → t = next (s.beside t)) ∧
        (t.cur.now.toNat - s.t0.toNat < limit s.params → t = s.beside t))) := by
  obtain ⟨b, u, hcur, -, hu, ht⟩ := step_busy h hr hb
  rw [hphase, State.timedSend] at hu
  rw [← hcur]
  refine ⟨fun hlate => ?_, fun hin => ⟨fun e he => ?_, fun he => ⟨fun hdue => ?_, fun hwait => ?_⟩⟩⟩
  · rw [sendGuard_of_pastDeadline (a := s.beside b) hlate] at hu
    cases hu; cases ht; rfl
  · rw [sendGuard_of_txErr (a := s.beside b) hin he] at hu
    cases hu; cases ht; rfl
  · rw [sendGuard_of_noTxErr (a := s.beside b) hin he] at hu
    cases (if_pos hdue).symm.trans hu
    rw [ht]
    exact hnext b
  · rw [sendGuard_of_noTxErr (a := s.beside b) hin he] at hu
    cases (if_neg (Nat.not_le.2 hwait)).symm.trans hu
    cases ht; rfl

/-- Settles O47: the handler is timed by `T_BREAK_MIN`. -/
theorem breakSentStep : Obligations.BreakSentStep := by
  intro s t ht hr hq
  have hphase (a : State) : a.enginePhase s.state = a.timedSend Params.tBreakMin State.breakEnded := by
    rw [hq]; exact breakSentPhase_eq_timedSend a
  obtain ⟨hlate, hin⟩ := step_timedSend hphase (fun _ => rfl) ht hr (state_busy hq rfl)
  exact ⟨hlate, fun h => (hin h).imp_right fun htimer he _ => htimer he⟩

/-- Settles O48: the handler is timed by `T_MARK`, and no byte leaves before `CommandSent`. -/
theorem markingWaitStep : Obligations.MarkingWaitStep := by
  intro s t ht hr hq
  have hphase (a : State) : a.enginePhase s.state = a.timedSend Params.tMark State.markingEnded := by
    rw [hq]; exact markingWaitPhase_eq_timedSend a
  obtain ⟨hlate, hin⟩ := step_timedSend hphase (fun _ => rfl) ht hr (state_busy hq rfl)
  exact ⟨hlate, fun h => (hin h).imp_right fun htimer he _ => htimer he, step_tx_none ht hr (by rw [hq]; decide)⟩

end Sys2Proof.Machine

/-! # A step at rest, reception and validation (R260, R263 to R272, R274 to R280, R301, R305 to R308): O42, O50 to O55 -/

namespace Sys2Proof.Machine

variable {s t a u : State} {e : ErrKind} {c lb : Byte}

/-! ## A step at rest -/

theorem hostPhase_idle (h : a.cur.host = .idle) : a.hostPhase = .next a := by
  rw [State.hostPhase, h]

/-- Settles O42: with no access the host phase does nothing, a quiescent engine makes no move, and the outputs are those of the
record taken. -/
theorem quiescentStays : Obligations.QuiescentStays := by
  intro s t ht hr hb hidle
  obtain ⟨a, u, ha, -, hrest, rfl, hcur⟩ := step_moves ht hr
  obtain ⟨inputs, envIdx, cur, hlatch⟩ := latch_record s
  cases hrest hb
  rw [hostPhase_idle (by rw [hcur]; exact hidle), hlatch] at ha
  cases ha
  exact ⟨rfl, rfl, rfl, rfl⟩

/-! ## The wait for a response, in the order of R270 -/

/-- The two deadlines of an attempt, as the handler tests them (R263, R264). -/
theorem responseLate_iff (a : State) : a.responseLate a.cur.now ↔ a.tDead ≤ a.cur.now ∨ a.interbyteDue = true :=
  or_congr_right (interbyteDue_iff a).symm

theorem awaitingPhase_of_pastDeadline (h : a.pastDeadline a.cur.now) : a.awaitingPhase = .next (a.failFinal .timeout) :=
  if_pos ((abortDue_iff a).2 h)

theorem awaitingPhase_of_responseLate (h : ¬a.pastDeadline a.cur.now) (hlate : a.responseLate a.cur.now) :
    a.awaitingPhase = .next (a.attemptFail .timeout 0) := by
  rw [State.awaitingPhase, if_neg (mt (abortDue_iff a).1 h)]
  by_cases hdead : a.tDead ≤ a.cur.now
  · rw [if_pos hdead]
  · rw [if_neg hdead, if_pos (((responseLate_iff a).1 hlate).resolve_left hdead)]

theorem awaitingPhase_of_inTime (h : ¬a.pastDeadline a.cur.now) (hin : ¬a.responseLate a.cur.now) :
    a.awaitingPhase = a.receive := by
  rw [responseLate_iff, not_or] at hin
  rw [State.awaitingPhase, if_neg (mt (abortDue_iff a).1 h), if_neg hin.1, if_neg hin.2]

/-- The handler of `AwaitingResponse` runs in the state before the step, but for what the host and the environment bring. -/
theorem step_awaiting (h : step s = .next t) (hr : t.cur.rst = false) (hq : s.state = .awaitingResponse) :
    ∃ b u, b.cur = t.cur ∧ (s.beside b).awaitingPhase = .next u ∧ t = u.drive := by
  obtain ⟨b, u, hcur, -, hu, ht⟩ := step_busy h hr (state_busy hq rfl)
  rw [hq] at hu
  exact ⟨b, u, hcur, hu, ht⟩

/-- Settles O50: the deadlines are tested before the input is looked at. -/
theorem deadlineBeatsByte : Obligations.DeadlineBeatsByte := by
  intro s t ht hr hq
  obtain ⟨b, u, hcur, hu, ht⟩ := step_awaiting ht hr hq
  rw [← hcur]
  refine ⟨fun hpast => ?_, fun hin hlate => ?_⟩
  · rw [awaitingPhase_of_pastDeadline (a := s.beside b) hpast] at hu
    cases hu; cases ht; rfl
  · rw [awaitingPhase_of_responseLate (a := s.beside b) hin hlate] at hu
    cases hu; cases ht; rfl

/-! ## A receive event before any deadline (R265, R266) -/

theorem receive_nothing (h : a.cur.rx = .nothing) : a.receive = .next a := by
  rw [State.receive, h]

theorem receive_err {e : BitVec 7} (h : a.cur.rx = .err e) : a.receive = .next (a.attemptFail .transport (transportSub e)) := by
  rw [State.receive, h]

/-- A receiver that goes on after a good character has stored it. -/
theorem receive_char (h : a.cur.rx = .byte lb) (hc : charOf a.framing lb = some c) (hu : a.receive = .next u) :
    u = a.storeByte c := by
  simp only [State.receive, h, hc] at hu
  split at hu <;> cases hu
  rfl

theorem step_receive (h : step s = .next t) (hr : t.cur.rst = false) (hq : s.state = .awaitingResponse)
    (hin : ¬s.pastDeadline t.cur.now) (hnow : ¬s.responseLate t.cur.now) :
    ∃ b u, b.cur = t.cur ∧ (s.beside b).receive = .next u ∧ t = u.drive := by
  obtain ⟨b, u, hcur, hu, ht⟩ := step_awaiting h hr hq
  rw [← hcur] at hin hnow
  rw [awaitingPhase_of_inTime (a := s.beside b) hin hnow] at hu
  exact ⟨b, u, hcur, hu, ht⟩

/-- Settles O51, event by event. -/
theorem receiveErrors : Obligations.ReceiveErrors := by
  intro s t ht hr hq hin hnow
  obtain ⟨b, u, hcur, hu, ht⟩ := step_receive ht hr hq hin hnow
  rw [← hcur]
  refine ⟨fun e he => ?_, fun lb hlb hc => ?_, fun hnone => ?_⟩
  · rw [receive_err (a := s.beside b) he] at hu
    cases hu; cases ht; rfl
  · rw [receive_parityError (s := s.beside b) hlb hc] at hu
    cases hu; cases ht; rfl
  · rw [receive_nothing (a := s.beside b) hnone] at hu
    cases hu; cases ht; rfl

/-! ## A character received (R266) -/

/-- Whatever becomes of the frame, `RXBUF` has the character at `r.rx_len` and is as before elsewhere. -/
theorem storeByte_rxbuf (a : State) (c : Byte) : (a.storeByte c).rxbuf = a.rxbuf.store a.rxLen.toNat c := by
  unfold State.storeByte
  split
  · unfold State.endAscii
    split <;> rfl
  · rcases endBinary_cases (a.keepByte c) with g | ⟨g, -⟩ | ⟨g, -⟩ <;> rw [g, noteSize_eq] <;> rfl

theorem read_storeByte (a : State) (c : Byte) (sp : Space) (i : Nat) :
    (a.storeByte c).read sp i = (a.write .rx a.rxLen.toNat c).read sp i := by
  have hcall := storeByte_call a c
  simp only [State.call, Prod.mk.injEq] at hcall
  obtain ⟨-, -, -, -, -, -, -, -, -, -, -, -, -, -, -, -, htx, hxb⟩ := hcall
  exact read_congr (s := a.write .rx a.rxLen.toNat c) ⟨htx, storeByte_rxbuf a c, hxb⟩ sp i

/-- A step that receives a good character before any deadline: it stores the character, and the buffers read as after that one
write. -/
theorem step_storeByte (h : step s = .next t) (hr : t.cur.rst = false) (hq : s.state = .awaitingResponse)
    (hin : ¬s.pastDeadline t.cur.now) (hnow : ¬s.responseLate t.cur.now) (hrx : t.cur.rx = .byte lb)
    (hc : charOf s.framing lb = some c) :
    (∃ b, t = ((s.beside b).storeByte c).drive) ∧ ∀ sp i, t.read sp i = (s.write .rx s.rxLen.toNat c).read sp i := by
  obtain ⟨b, u, hcur, hu, rfl⟩ := step_receive h hr hq hin hnow
  rw [← hcur] at hrx
  cases receive_char (a := s.beside b) hrx hc hu
  exact ⟨⟨b, rfl⟩, read_storeByte (s.beside b) c⟩

/-- Where the buffers read as after one write, the byte is there and every other is as before. -/
theorem reads_of_write {i : Nat} (h : ∀ sp j, t.read sp j = (s.write .rx i c).read sp j) :
    t.read .rx i = c ∧ ∀ sp j, sp ≠ .rx ∨ j ≠ i → t.read sp j = s.read sp j :=
  ⟨(h .rx i).trans (read_write_same ..), fun sp j hother => (h sp j).trans (read_write_other s c hother)⟩

/-! ## The end of an ASCII frame (R267) -/

theorem endAscii_eq (a : State) (c : Byte) :
    a.endAscii c = { a with state := if c = Ascii.lf ∨ a.rxLen = a.rxCap then .validating else a.state } := by
  unfold State.endAscii
  split <;> rfl

theorem storeByte_ascii (hf : a.framing = .ascii7E1) (c : Byte) :
    a.storeByte c =
      { a with
        rxbuf := a.rxbuf.store a.rxLen.toNat c
        rxLen := a.rxLen + 1
        tLast := a.cur.now
        state := if c = Ascii.lf ∨ a.rxLen + 1 = a.rxCap then .validating else a.state } := by
  have hend : a.storeByte c = (a.keepByte c).endAscii c := by rw [State.storeByte, hf]
  exact hend.trans (endAscii_eq (a.keepByte c) c)

/-- Settles O52: the character is stored, and its end of frame sets the state. -/
theorem asciiByteStored : Obligations.AsciiByteStored := by
  intro s t lb c ht hr hq hin hnow hf hrx hc
  rw [← hf] at hc
  obtain ⟨⟨b, hstored⟩, hreads⟩ := step_storeByte ht hr hq hin hnow hrx hc
  obtain ⟨hbyte, hothers⟩ := reads_of_write hreads
  refine ⟨hbyte, hothers, ?_⟩
  rw [storeByte_ascii (a := s.beside b) hf] at hstored
  cases hstored
  rw [← hq]
  rfl

/-! ## The end of a binary frame (R268, R269) -/

/-- `r.rx_need` after a byte has been stored: the third gives it, from the two bytes before and with it (R116, R269). -/
theorem noteSize_keepByte_rxNeed (s : State) (c : Byte) :
    (s.keepByte c).noteSize.rxNeed =
      if s.rxLen + 1 = 3 then
        6 + ((s.write .rx s.rxLen.toNat c).read .rx 2 ++ (s.write .rx s.rxLen.toNat c).read .rx 1 : BitVec 16).setWidth 17
      else s.rxNeed := by
  rw [noteSize_eq, State.packetSize, decb_eq_append]
  rfl

theorem noteSize_keepByte_eq (a : State) (c : Byte) :
    (a.keepByte c).noteSize =
      { a with
        rxbuf := a.rxbuf.store a.rxLen.toNat c
        rxLen := a.rxLen + 1
        tLast := a.cur.now
        rxNeed := (a.keepByte c).noteSize.rxNeed } := by
  rw [noteSize_eq]
  rfl

/-- What becomes of a binary frame once a byte is stored and the size noted: it cannot fit, it is complete, it fills the buffer, or it
goes on (R268, R269). -/
theorem storeByte_binary (hf : a.framing = .binary8N1) (c : Byte) :
    a.storeByte c =
      if a.rxLen + 1 = 3 ∧ a.rxCap.toNat < (a.keepByte c).noteSize.rxNeed.toNat then
        (a.keepByte c).noteSize.attemptFail .capacity 0
      else if (a.keepByte c).noteSize.rxNeed ≠ 0 ∧ (a.rxLen + 1).toNat = (a.keepByte c).noteSize.rxNeed.toNat then
        { (a.keepByte c).noteSize with framing := .ascii7E1, state := .validating }
      else if a.rxLen + 1 = a.rxCap then (a.keepByte c).noteSize.attemptFail .capacity 0
      else (a.keepByte c).noteSize := by
  obtain ⟨-, -, -, -, -, -, -, hcap, hlen, -⟩ := noteSize_keepByte_frame a c
  simp only [State.storeByte, hf, State.endBinary, hcap, hlen]

/-- Settles O53: the byte is stored, and the size field with the capacity decides how the frame goes on. -/
theorem binaryByteStored : Obligations.BinaryByteStored := by
  intro s t lb ht hr hq hin hnow hf hrx need stored
  have hc : charOf s.framing lb = some lb := by rw [hf]; rfl
  obtain ⟨⟨b, hstored⟩, hreads⟩ := step_storeByte ht hr hq hin hnow hrx hc
  obtain ⟨hbyte, hothers⟩ := reads_of_write hreads
  refine ⟨hbyte, hothers, ?_⟩
  have hneed : ((s.beside b).keepByte lb).noteSize.rxNeed = need := by
    simp only [need, hreads]
    exact noteSize_keepByte_rxNeed (s.beside b) lb
  clear_value need
  rw [storeByte_binary (a := s.beside b) hf, noteSize_keepByte_eq, hneed] at hstored
  split at hstored
  next hover => cases hstored; exact (if_pos hover).symm
  next hfits =>
    refine Eq.trans ?_ (if_neg hfits).symm
    split at hstored
    next hfull => cases hstored; exact (if_pos hfull).symm
    next hpart =>
      refine Eq.trans ?_ (if_neg hpart).symm
      split at hstored
      next hcap => cases hstored; exact (if_pos hcap).symm
      next hroom => cases hstored; exact (if_neg hroom).symm

/-! ## The validator's checks (R272, R274 to R279) -/

theorem checkFrame_of_wrongAddress {n : Nat} (h : addrOk a.descriptor (a.read .rx 0) = false) :
    a.checkFrame n = some .addressMismatch := if_pos h

/-- The frame `RXBUF[0 .. n)` ends in CR LF behind at least an address (R275). -/
abbrev State.EndsInCrLf (a : State) (n : Nat) : Prop := 3 ≤ n ∧ a.read .rx (n - 2) = Ascii.cr ∧ a.read .rx (n - 1) = Ascii.lf

theorem not_endsInCrLf_iff {n : Nat} :
    ¬a.EndsInCrLf n ↔ n < 3 ∨ a.read .rx (n - 2) ≠ Ascii.cr ∨ a.read .rx (n - 1) ≠ Ascii.lf := by
  rw [State.EndsInCrLf, not_and_or, not_and_or, Nat.not_le]

section

variable {n : Nat} (haddr : addrOk a.descriptor (a.read .rx 0) = true)
include haddr

theorem checkFrame_ascii (hf : a.fmt = .ascii7E1) :
    a.checkFrame n =
      if n < 3 ∨ a.read .rx (n - 2) ≠ Ascii.cr ∨ a.read .rx (n - 1) ≠ Ascii.lf then some .terminator
      else if crcMode a.descriptor = .ascii then a.checkAsciiCrc n else none := by
  rw [State.checkFrame, if_neg (by simp [haddr]), hf]

theorem checkFrame_unterminated (hf : a.fmt = .ascii7E1) (hends : ¬a.EndsInCrLf n) : a.checkFrame n = some .terminator :=
  (checkFrame_ascii haddr hf).trans (if_pos (not_endsInCrLf_iff.1 hends))

theorem checkFrame_terminated (hf : a.fmt = .ascii7E1) (hends : a.EndsInCrLf n) :
    a.checkFrame n = if crcMode a.descriptor = .ascii then a.checkAsciiCrc n else none :=
  (checkFrame_ascii haddr hf).trans (if_neg fun hnot => not_endsInCrLf_iff.2 hnot hends)

theorem checkFrame_binary (hf : a.fmt = .binary8N1) : a.checkFrame n = a.checkBinaryCrc n := by
  rw [State.checkFrame, if_neg (by simp [haddr]), hf]

end

/-- The three characters of an ASCII frame's CRC (R276). -/
abbrev State.frameCrcText (a : State) (n : Nat) : CrcText := ⟨a.read .rx (n - 5), a.read .rx (n - 4), a.read .rx (n - 3)⟩

theorem checkAsciiCrc_undecodable {n : Nat} (h : n < 6 ∨ dec3 (a.frameCrcText n) = none) :
    a.checkAsciiCrc n = some .crcDecode := by
  unfold State.checkAsciiCrc
  by_cases hn : n < 6
  · exact if_pos hn
  · rw [if_neg hn, h.resolve_left hn]

theorem checkAsciiCrc_decoded {n : Nat} (hn : 6 ≤ n) {v : BitVec 16} (hv : dec3 (a.frameCrcText n) = some v) :
    a.checkAsciiCrc n = if crc16 (a.readBytes .rx 0 (n - 5)) = v then none else some .crcMismatch := by
  rw [State.checkAsciiCrc, if_neg (Nat.not_lt.2 hn), hv]

theorem checkBinaryCrc_eq (a : State) (n : Nat) :
    a.checkBinaryCrc n =
      if crc16 (a.readBytes .rx 0 (n - 2)) = a.read .rx (n - 1) ++ a.read .rx (n - 2) then none else some .crcMismatch := by
  rw [State.checkBinaryCrc, decb_eq_append]

/-! ## A step in `Validating` (R307) -/

theorem validatingPhase_fails (hu : a.validatingPhase = .next u) (h : a.checkFrame a.rxLen.toNat = some e) :
    u = a.attemptFail e 0 := by
  rw [State.validatingPhase, h] at hu
  split at hu <;> cases hu
  rfl

theorem validatingPhase_passes (hu : a.validatingPhase = .next u) (h : a.checkFrame a.rxLen.toNat = none) :
    u = a.enterSuccess := by
  rw [State.validatingPhase, h] at hu
  split at hu <;> cases hu
  rfl

/-- The checks read the frame, the descriptor and the format only, none of which a step's host phase or input changes. -/
theorem checkFrame_beside (s b : State) (n : Nat) : (s.beside b).checkFrame n = s.checkFrame n := by
  have hbytes (i k : Nat) : (s.beside b).readBytes .rx i k = s.readBytes .rx i k :=
    readBytes_congr (s := s) (t := s.beside b) ⟨rfl, rfl, rfl⟩ .rx i k
  simp only [State.checkFrame, State.checkAsciiCrc, State.checkBinaryCrc, hbytes]
  rfl

theorem step_validating (h : step s = .next t) (hr : t.cur.rst = false) (hq : s.state = .validating) :
    ∃ b u, (s.beside b).validatingPhase = .next u ∧ t = u.drive := by
  obtain ⟨b, u, -, -, hu, ht⟩ := step_busy h hr (state_busy hq rfl)
  rw [hq] at hu
  exact ⟨b, u, hu, ht⟩

theorem step_frame_fails (h : step s = .next t) (hr : t.cur.rst = false) (hq : s.state = .validating)
    (hcheck : s.checkFrame s.rxLen.toNat = some e) : t = (s.beside t).afterAttemptFail e 0 := by
  obtain ⟨b, u, hu, rfl⟩ := step_validating h hr hq
  cases validatingPhase_fails hu ((checkFrame_beside s b _).trans hcheck)
  rfl

theorem step_frame_passes (h : step s = .next t) (hr : t.cur.rst = false) (hq : s.state = .validating)
    (hcheck : s.checkFrame s.rxLen.toNat = none) :
    t = (s.beside t).afterSuccess (payloadEnd (crcMode s.descriptor) s.rxLen.toNat) (decide (crcMode s.descriptor ≠ .none)) := by
  obtain ⟨b, u, hu, rfl⟩ := step_validating h hr hq
  cases validatingPhase_passes hu ((checkFrame_beside s b _).trans hcheck)
  rfl

/-- Settles O54: each failure is the verdict of the validator's checks. -/
theorem validationFailures : Obligations.ValidationFailures := by
  intro s t ht hr hq n ends text
  refine ⟨fun haddr => ?_, fun haddr hf => ⟨fun hends => ?_, fun hends hmode => ⟨fun htext => ?_, fun hn v hv hne => ?_⟩⟩,
    fun haddr hf hne => ?_⟩
  all_goals refine step_frame_fails ht hr hq ?_
  · exact checkFrame_of_wrongAddress haddr
  · exact checkFrame_unterminated haddr hf hends
  · exact (checkFrame_terminated haddr hf hends).trans ((if_pos hmode).trans (checkAsciiCrc_undecodable htext))
  · exact (checkFrame_terminated haddr hf hends).trans
      ((if_pos hmode).trans ((checkAsciiCrc_decoded hn hv).trans (if_neg hne)))
  · exact (checkFrame_binary haddr hf).trans ((checkBinaryCrc_eq s n).trans (if_neg hne))

/-- Settles O55: the frame passes the checks its command asks for, and the CRC mode gives the end of the payload. -/
theorem validationSuccess : Obligations.ValidationSuccess := by
  intro s t ht hr hq n haddr
  refine ⟨fun hf hlen hcr hlf => ⟨fun hmode => ?_, fun hmode hn hv => ?_⟩, fun hf hmode hcrc => ?_⟩
  · have hcheck := (checkFrame_terminated haddr hf ⟨hlen, hcr, hlf⟩).trans (if_neg (by rw [hmode]; decide))
    have hpass := step_frame_passes ht hr hq hcheck
    rw [hmode] at hpass
    exact hpass
  · have hcheck := (checkFrame_terminated haddr hf ⟨hlen, hcr, hlf⟩).trans
      ((if_pos hmode).trans ((checkAsciiCrc_decoded hn hv).trans (if_pos rfl)))
    have hpass := step_frame_passes ht hr hq hcheck
    rw [hmode, payloadEnd, Nat.sub_sub] at hpass
    exact hpass
  · have hcheck := (checkFrame_binary haddr hf).trans ((checkBinaryCrc_eq s n).trans (if_pos hcrc))
    have hpass := step_frame_passes ht hr hq hcheck
    rw [hmode] at hpass
    exact hpass

end Sys2Proof.Machine

/-! # How a transaction begins, is sent, and is tried again (R241, R248, R250, R293 to R295, R297, R300, R304, R309 to R311): O24, O26,
O46, O49, O56 -/

namespace Sys2Proof.Machine

variable {s t a u : State}

/-! ## `TRANSACT` and `CLEAR` -/

theorem exec_transact_error (hb : s.busy = false) {e : ErrKind} (h : s.construct true s.builtFromRegs = .error e) :
    exec .transact s = .next (s.constructionFailed e) := by
  rw [exec, execTransact, accept_quiescent hb, beginTransaction_error ((construct_accepted s true).trans h)]
  rfl

/-- `TRANSACT` issues the command of the registers, which acceptance leaves alone. -/
theorem exec_transact_eq_issue (hb : s.busy = false) :
    exec .transact s = issue s (respFmt s.descriptor) s.accepted.builtFromRegs := by
  rw [exec, execTransact, issue, accept_quiescent hb, accept_quiescent hb]
  rfl

/-- Settles O24: the error as `beginTransaction_error` has it, the start as for any command issued. -/
theorem transactOutcome : Obligations.TransactOutcome := by
  refine fun s hb => ⟨fun e he => exec_transact_error hb he, fun w hw => ?_⟩
  rw [Transacts, exec_transact_eq_issue hb]
  exact issue_started hb ((construct_accepted s true).trans hw)

/-- Settles O26: acceptance clears all but the overrun flag, and a busy state accepts nothing. -/
theorem clearEffect : Obligations.ClearEffect := by
  refine fun s => ⟨fun hb => ?_, fun hb => ?_⟩ <;> rw [exec, execClear]
  · exact accept_quiescent hb _
  · exact accept_busy hb _

/-! ## The decision to send a break (R297) -/

/-- A sensor address answered last, so the wildcard is another address. -/
theorem needBreak_of_wildcard (h : s.LastByAnswer) (haddr : s.cmd0.extractLsb' 0 8 = 0x3F) (isRetry : Bool) :
    s.needBreak isRetry = true := by
  cases hv : s.lastValid with
  | false => exact needBreak_of_not_lastValid hv isRetry
  | true =>
    have hne : s.lastAddr ≠ s.descriptor.addr := by
      intro heq
      have hsensor := h hv
      rw [heq, show s.descriptor.addr = 0x3F from haddr] at hsensor
      exact absurd hsensor (by decide)
    exact (needBreak_iff s isRetry).2 (.inr (.inr (.inr (.inl hne))))

/-- Settles O46: the formula is `needBreak_iff` in the registers' own bits. -/
theorem needBreakRule : Obligations.NeedBreakRule :=
  ⟨fun s isRetry _ => needBreak_iff s isRetry, fun _ isRetry hlast haddr => needBreak_of_wildcard hlast haddr isRetry,
    fun _ isRetry => ⟨(by decide : cfgReset.getLsbD 9 = true), (by decide : cfgReset.getLsbD 10 = true),
      needBreak_of_not_lastValid rfl isRetry⟩⟩

/-! ## A step in `CommandSent` (R248, R304) -/

section

variable (hin : ¬a.pastDeadline a.cur.now) (herr : a.cur.txErr = none)
include hin herr

/-- A handler that goes on with a ready transport has handed over the next byte. -/
theorem commandSentPhase_ready (hptr : a.txPtr < a.txLen) (hready : a.cur.txReady = true)
    (hu : a.commandSentPhase = .next u) : u = a.sendNext := by
  rw [State.commandSentPhase, sendGuard_of_noTxErr hin herr, if_pos hptr, if_pos hready] at hu
  split at hu <;> cases hu
  rfl

theorem commandSentPhase_notReady (hptr : a.txPtr < a.txLen) (hready : a.cur.txReady = false) :
    a.commandSentPhase = .next a := by
  rw [State.commandSentPhase, sendGuard_of_noTxErr hin herr, if_pos hptr, hready]
  rfl

theorem commandSentPhase_done (hptr : ¬a.txPtr < a.txLen) (hdone : a.cur.txDone = true) :
    a.commandSentPhase = .next a.enterAwaiting := by
  rw [State.commandSentPhase, sendGuard_of_noTxErr hin herr, if_neg hptr, if_pos hdone]

theorem commandSentPhase_notDone (hptr : ¬a.txPtr < a.txLen) (hdone : a.cur.txDone = false) :
    a.commandSentPhase = .next a := by
  rw [State.commandSentPhase, sendGuard_of_noTxErr hin herr, if_neg hptr, hdone]
  rfl

end

theorem step_commandSent (h : step s = .next t) (hr : t.cur.rst = false) (hq : s.state = .commandSent) :
    ∃ b u, b.cur = t.cur ∧ b.out.tx = none ∧ (s.beside b).commandSentPhase = .next u ∧ t = u.drive := by
  obtain ⟨b, u, hcur, htx, hu, ht⟩ := step_busy h hr (state_busy hq rfl)
  rw [hq] at hu
  exact ⟨b, u, hcur, htx, hu, ht⟩

/-- Settles O49: the guard of the send side, then the two tests of the handler. -/
theorem commandSentStep : Obligations.CommandSentStep := by
  intro s t ht hr hq
  obtain ⟨b, u, hcur, htx, hu, rfl⟩ := step_commandSent ht hr hq
  rw [← hcur]
  refine ⟨fun hlate => ?_, fun hin => ⟨fun e he => ?_, fun he hptr => ⟨fun hready => ?_, fun hready => ?_⟩, fun he hptr => ?_⟩⟩
  · rw [State.commandSentPhase, sendGuard_of_pastDeadline (a := s.beside b) hlate] at hu
    cases hu; exact ⟨rfl, htx⟩
  · rw [State.commandSentPhase, sendGuard_of_txErr (a := s.beside b) hin he] at hu
    cases hu; exact ⟨rfl, htx⟩
  · cases commandSentPhase_ready (a := s.beside b) hin he hptr hready hu
    exact ⟨rfl, rfl⟩
  · rw [commandSentPhase_notReady (a := s.beside b) hin he hptr hready] at hu
    cases hu; exact ⟨rfl, htx⟩
  · cases hdone : b.cur.txDone with
    | true =>
      rw [commandSentPhase_done (a := s.beside b) hin he hptr hdone] at hu
      cases hu
      exact ⟨htx, fun hnot => absurd hnot (by decide), fun _ _ => rfl⟩
    | false =>
      rw [commandSentPhase_notDone (a := s.beside b) hin he hptr hdone] at hu
      cases hu
      exact ⟨htx, fun _ => rfl, fun hyes => absurd hyes (by decide)⟩

/-! ## A step in `Retry` (R309) -/

theorem retryable_err_iff (a : State) : a.retryable a.err = true ↔ a.mayRetry := by
  unfold State.mayRetry
  cases a.err <;> simp [State.retryable, State.retryValidation]

theorem retryPhase_again (h : a.mayRetry ∧ a.retryCnt < a.retryMax) :
    a.retryPhase = .next (State.startAttempt { a with retryCnt := a.retryCnt + 1 } true) :=
  if_pos ⟨(retryable_err_iff a).2 h.1, h.2⟩

theorem retryPhase_giveUp (h : ¬(a.mayRetry ∧ a.retryCnt < a.retryMax)) : a.retryPhase = .next a.enterFailed :=
  if_neg fun hagain => h ⟨(retryable_err_iff a).1 hagain.1, hagain.2⟩

/-- The attempt a step starts, seen from the state after the step. -/
theorem startAttempt_drive (a : State) (isRetry : Bool) :
    (a.startAttempt isRetry).drive = State.afterStart (a.beside (a.startAttempt isRetry).drive) isRetry := by
  have hcur : (a.startAttempt isRetry).drive.cur = a.cur := (startAttempt_sameRecord a isRetry).cur
  have hneed : (a.beside (a.startAttempt isRetry).drive).needBreak isRetry = a.needBreak isRetry :=
    needBreak_congr isRetry ⟨rfl, rfl, rfl, rfl, rfl, rfl, rfl, hcur⟩
  rw [State.afterStart, hneed, startAttempt_eq]
  split <;> rfl

theorem step_retry (h : step s = .next t) (hr : t.cur.rst = false) (hq : s.state = .retry) :
    ∃ b u, (s.beside b).retryPhase = .next u ∧ t = u.drive := by
  obtain ⟨b, u, -, -, hu, ht⟩ := step_busy h hr (state_busy hq rfl)
  rw [hq] at hu
  exact ⟨b, u, hu, ht⟩

/-- Settles O56: `mayRetry` and the bound are the handler's test. -/
theorem retryStep : Obligations.RetryStep := by
  intro s t ht hr hq
  obtain ⟨b, u, hu, rfl⟩ := step_retry ht hr hq
  refine ⟨fun hagain => ?_, fun hlast => ?_⟩
  · rw [retryPhase_again (a := s.beside b) hagain] at hu
    cases hu
    exact startAttempt_drive { s.beside b with retryCnt := s.retryCnt + 1 } true
  · rw [retryPhase_giveUp (a := s.beside b) hlast] at hu
    cases hu; rfl

end Sys2Proof.Machine

/-! # The transition table (R296, R301 to R309, R312): O41 -/

namespace Sys2Proof.Machine

variable {s t a u : State} {p q : FsmState}

/-! ## What the table allows -/

/-- The states an operation leaves when it is accepted (R293, R294). -/
def FsmState.afterOperation (q : FsmState) : Bool :=
  match q with
  | .idle | .failed | .breakSent | .commandSent => true
  | .markingWait | .awaitingResponse | .validating | .success | .retry => false

/-- A quiescent state is left by an operation only (R301). -/
theorem mayPrecede_of_quiescent (hp : p.busy = false) (h : q = p ∨ q.afterOperation = true) : p.mayPrecede q = true := by
  rcases h with rfl | h
  · cases q <;> cases hp <;> rfl
  · cases p
    case idle | success | failed => cases q <;> cases h <;> rfl
    all_goals cases hp

/-- A waiting state may last, end in the overall deadline, or fail (R302 to R306). -/
theorem mayPrecede_of_waiting (hp : p.waiting = true) (h : q = p ∨ q = .failed ∨ q = .retry) : p.mayPrecede q = true := by
  cases p <;> cases hp <;> rcases h with rfl | rfl | rfl <;> rfl

/-! ## From a quiescent state -/

theorem execTransact_afterOperation (hb : s.busy = false) (ht : exec .transact s = .next t) : t.state.afterOperation = true := by
  obtain ⟨herror, hstart⟩ := transactOutcome s hb
  cases hc : s.construct true s.builtFromRegs with
  | error e =>
    rw [herror e hc] at ht
    cases ht; rfl
  | ok w =>
    obtain ⟨r, hr, hstarted⟩ := hstart w hc
    cases ht.symm.trans hr
    rw [hstarted.registers]
    cases s.needBreak false <;> rfl

theorem accept_idle (hb : s.busy = false) {op : State → State} (ht : accept s op = .next t)
    (hop : (op s.accepted).state = .idle) : t.state = .idle := by
  rw [accept_quiescent hb] at ht
  cases ht
  exact hop

theorem execCmdFormat_idle (hb : s.busy = false) (ht : execCmdFormat s = .next t) : t.state = .idle := by
  refine accept_idle hb ht ?_
  split
  · rfl
  · rw [formatInto_eq]; rfl

theorem execAddrCheck_idle (hb : s.busy = false) (ht : execAddrCheck s = .next t) : t.state = .idle :=
  accept_idle hb ht (by split <;> rfl)

theorem execCrcCompute_idle (hb : s.busy = false) (ht : execCrcCompute s = .next t) : t.state = .idle :=
  accept_idle hb ht (by split <;> rfl)

theorem execCrcDecAscii_idle (hb : s.busy = false) (ht : execCrcDecAscii s = .next t) : t.state = .idle :=
  accept_idle hb ht (by split <;> rfl)

theorem execCrcVerify_idle (hb : s.busy = false) (ht : execCrcVerify s = .next t) : t.state = .idle := by
  refine accept_idle hb ht ?_
  split
  · rfl
  · split <;> rfl

theorem execNop_idle (hb : s.busy = false) (ht : execNop s = .next t) : t.state = .idle := accept_idle hb ht rfl

theorem execCrcEncAscii_idle (hb : s.busy = false) (ht : execCrcEncAscii s = .next t) : t.state = .idle := accept_idle hb ht rfl

theorem execClear_idle (hb : s.busy = false) (ht : execClear s = .next t) : t.state = .idle := accept_idle hb ht rfl

theorem reservedOperation_idle (hb : s.busy = false) (ht : reservedOperation s = .next t) : t.state = .idle :=
  accept_idle hb ht rfl

/-- Every operation but `TRANSACT` is over at once (R293, R295). -/
theorem exec_idle (hb : s.busy = false) {i : Instr} (hop : (opCode i).isSome = true) (hi : i ≠ .transact)
    (ht : exec i s = .next t) : t.state = .idle := by
  cases i
  case nop => exact execNop_idle hb ht
  case transact => exact absurd rfl hi
  case cmdFormat => exact execCmdFormat_idle hb ht
  case addrCheck => exact execAddrCheck_idle hb ht
  case crcCompute => exact execCrcCompute_idle hb ht
  case crcEncAscii => exact execCrcEncAscii_idle hb ht
  case crcDecAscii => exact execCrcDecAscii_idle hb ht
  case crcVerify => exact execCrcVerify_idle hb ht
  case clear => exact execClear_idle hb ht
  case reservedOp9 | reservedOpA | reservedOpB | reservedOpC | reservedOpD | reservedOpE | reservedOpF =>
    exact reservedOperation_idle hb ht
  all_goals cases hop

theorem exec_afterOperation (hb : s.busy = false) {i : Instr} (hop : (opCode i).isSome = true) (ht : exec i s = .next t) :
    t.state.afterOperation = true := by
  by_cases hi : i = .transact
  · rw [hi] at ht
    exact execTransact_afterOperation hb ht
  · rw [exec_idle hb hop hi ht]
    rfl

/-- A quiescent state changes by an operation only, not by another access (R292, R301). -/
theorem hostPhase_state_quiescent (hb : s.busy = false) (ha : s.hostPhase = .next a) :
    a.state = s.state ∨ a.state.afterOperation = true := by
  cases hhost : s.cur.host with
  | idle => rw [hostPhase_idle hhost] at ha; cases ha; exact .inl rfl
  | rdCsr n => rw [hostPhase_rdCsr hhost] at ha; cases ha; exact .inl rfl
  | rdBuf sp i =>
    rw [hostPhase_rdBuf hhost, hostReadBuf_eq hb] at ha
    cases ha; exact .inl rfl
  | wrBuf sp i v =>
    rw [hostPhase_wrBuf hhost] at ha
    cases ha
    unfold State.hostWriteBuf
    rw [hb]
    split
    · exact .inl rfl
    · exact .inl (write_sameControl s sp i.toNat v).state
  | wrCsr n v =>
    by_cases hn : n = 0
    · subst hn
      rw [hostPhase_ctrl hhost, exec_fetch] at ha
      exact .inr (exec_afterOperation hb (decodeOp_isOperation v) ha)
    · rw [State.hostPhase, hhost] at ha
      cases (if_neg hn).symm.trans ha
      unfold State.hostWriteCsr
      rw [hb]
      split
      · exact .inl (writeCsr_sameControl s n v).state
      · exact .inl rfl

/-! ## From a busy state -/

/-- A stored byte ends the frame, fails the attempt, or leaves the state (R266 to R269). -/
theorem storeByte_state (a : State) (c : Byte) :
    (a.storeByte c).state = a.state ∨ (a.storeByte c).state = .validating ∨ (a.storeByte c).state = .retry := by
  cases hf : a.framing with
  | ascii7E1 =>
    rw [storeByte_ascii hf]
    split
    · exact .inr (.inl rfl)
    · exact .inl rfl
  | binary8N1 =>
    rw [show a.storeByte c = (a.keepByte c).endBinary by rw [State.storeByte, hf]]
    rcases endBinary_cases (a.keepByte c) with g | ⟨g, -⟩ | ⟨g, -⟩ <;> rw [g]
    · exact .inr (.inr rfl)
    · exact .inr (.inl rfl)
    · rw [noteSize_eq]; exact .inl rfl

/-- The moves of a waiting state (R302 to R306). -/
theorem State.EngineMove.mayPrecede_waiting (h : a.EngineMove q u) (hq : q.waiting = true) (ha : a.state = q) :
    q.mayPrecede u.state = true := by
  cases h with
  | stay => exact mayPrecede_of_waiting hq (.inl ha)
  | abort => exact mayPrecede_of_waiting hq (.inr (.inl rfl))
  | fail => exact mayPrecede_of_waiting hq (.inr (.inr rfl))
  | send => exact mayPrecede_of_waiting hq (.inl ha)
  | endBreak | endMarking | await => rfl
  | store c =>
    rcases storeByte_state a c with hstate | hstate | hstate
    · exact mayPrecede_of_waiting hq (.inl (hstate.trans ha))
    · rw [hstate]; rfl
    · exact mayPrecede_of_waiting hq (.inr (.inr hstate))
  | succeed | again | giveUp => cases hq

/-- The validator decides in one step (R307). -/
theorem validatingPhase_mayPrecede (hu : a.validatingPhase = .next u) : FsmState.validating.mayPrecede u.state = true := by
  cases hc : a.checkFrame a.rxLen.toNat with
  | some e => cases validatingPhase_fails hu hc; rfl
  | none => cases validatingPhase_passes hu hc; rfl

/-- `Retry` decides in one step (R309). -/
theorem retryPhase_mayPrecede (hu : a.retryPhase = .next u) : FsmState.retry.mayPrecede u.state = true := by
  by_cases h : a.mayRetry ∧ a.retryCnt < a.retryMax
  · rw [retryPhase_again h, startAttempt_eq] at hu
    cases hu
    split <;> rfl
  · rw [retryPhase_giveUp h] at hu
    cases hu; rfl

theorem enginePhase_mayPrecede (hb : a.busy = true) (hu : a.enginePhase a.state = .next u) :
    a.state.mayPrecede u.state = true := by
  have hmove := enginePhase_move hu
  cases hq : a.state <;> rw [hq] at hu hmove
  case idle | success | failed => rw [State.busy, hq] at hb; cases hb
  case breakSent | markingWait | commandSent | awaitingResponse => exact hmove.mayPrecede_waiting rfl hq
  case validating => exact validatingPhase_mayPrecede hu
  case retry => exact retryPhase_mayPrecede hu

/-- Settles O41: a quiescent state moves by its host phase, a busy one by its engine phase. -/
theorem transitionRelation : Obligations.TransitionRelation := by
  intro s t ht hr
  cases hb : s.busy with
  | false =>
    obtain ⟨a, u, ha, -, hrest, rfl, -⟩ := step_moves ht hr
    cases hrest hb
    have hstate : s.latch.state = s.state := by rw [latch_eq]
    have hhost := hostPhase_state_quiescent (by rw [State.busy, hstate]; exact hb) ha
    rw [hstate] at hhost
    exact mayPrecede_of_quiescent hb hhost
  | true =>
    obtain ⟨b, u, -, -, hu, rfl⟩ := step_busy ht hr hb
    exact enginePhase_mayPrecede (a := s.beside b) (u := u) hb hu

end Sys2Proof.Machine
